-- ==== Sys2Proof/Word.lean ====
section
/-! DEFINITION. The words of the part: what crosses a link is bytes, and the one check is a 16-bit register (R199).
Everything else the manual counts (sky time, rates, angles, positions, temperatures) is a plain integer: the manual's
products and sums are exact (00_scope, "Arithmetic conventions"), so the model keeps them as `Int` or `Nat`. -/

namespace Sys2Proof

/-- One byte of a frame or of the parameter record. -/
abbrev Byte := BitVec 8

/-- The CRC register of R199. -/
abbrev Crc := BitVec 16

end Sys2Proof
end

