-- ==== Sys2Proof/Config.lean ====
section
/-! DEFINITION. The capacities the manual fixes for every ULK-3420.
The spec leaves nothing to an implementation and calls no result undefined, so there is no free value and no
implementation-defined constant here. -/

namespace Sys2Proof.Config

/-- Frames an input buffer holds (R179). -/
def bufferDepth : Nat := 4

/-- Events an event queue holds (R193). -/
def eventDepth : Nat := 8

/-- The longest payload of a frame (R178, R200). -/
def maxPayload : Nat := 250

end Sys2Proof.Config
end

