-- ==== Sys2Proof/Syntax.lean ====
section
/-! DEFINITION. The commands of the part: one constructor for each row of spec/opcode_table.json.

A row that is an event of the outside world carries what the world decides at that event (log 1, 4, 5, 6).
A row that is a request carries the link it is taken from and the payload bytes of its frame (R180, R200; log 3). -/

namespace Sys2Proof

/-- The three links (00_scope, "The links"). -/
inductive Link where
  | s
  | c
  | d
  deriving DecidableEq, Repr

/-- Axis numbers 0 to 16 (00_scope, "Axis numbering"). -/
abbrev Axis := Fin 17

/-- Track numbers 0 to 12 (00_scope, "Track numbering"). -/
abbrev Track := Fin 13

/-- The side of a travel: an end switch (R139), a soft limit (R102) or a limit of sky time (R5, LOWER and UPPER). -/
inductive Side where
  | low
  | high
  deriving DecidableEq, Repr

/-- The result of a work of the store's cells, which the cells decide (R74, R76, R84). -/
inductive CellResult where
  | ok
  | failed
  deriving DecidableEq, Repr

/-- The levels of one axis's input lines as they stand when CLEAR FAULT reads them (R141); `true` is active.
A rotary axis has no end switch, and its two switch levels are not read. -/
structure Lines where
  trip : Bool
  low : Bool
  high : Bool
  deriving DecidableEq, Repr

/-- A trip line seen active (R132; log 4, 24): its axis, whether this activation is a new one (`anew`) or the one last
told of, and for how many microseconds in all it has lasted without a break. -/
structure TripSeen where
  axis : Axis
  anew : Bool
  us : Nat
  deriving DecidableEq, Repr

/-- The commands, in the order of spec/opcode_table.json. -/
inductive Instr where
  /-- DEVICE_RESET: `trips` are the axes whose trip line is active at the end of the reset, `switches` the end
  switches active then, each list in the order in which its lines are taken (R132, R139, R198; log 5). -/
  | deviceReset (trips : List Axis) (switches : List (Axis × Side))
  /-- CLOCK_STEP (R3 to R6). -/
  | clockStep
  /-- PROFILE_UPDATE of one axis (R95 to R105, R120 to R126). -/
  | profileUpdate (a : Axis)
  /-- INDEX_EDGE of one axis (R121, R124, R125, R128). -/
  | indexEdge (a : Axis)
  /-- QUALIFIED_TRIP of one axis, as far as its trip line has stayed active for the filter width (R132 to R138). -/
  | qualifiedTrip (x : TripSeen)
  /-- END_SWITCH: one end switch of an axis becomes active (R139). -/
  | endSwitch (a : Axis) (side : Side)
  /-- RETRY_EXPIRY: `line` is the level of the trip line that the expiry tests (R136). -/
  | retryExpiry (a : Axis) (line : Bool)
  /-- TRIP_WINDOW_EXPIRY of one axis (R137). -/
  | tripWindowExpiry (a : Axis)
  /-- THERMAL_SAMPLE: the reading in whole degrees Celsius (R142, R143). -/
  | thermalSample (celsius : Int)
  /-- WRITE_COMPLETION with the result of the cells (R74). -/
  | writeCompletion (result : CellResult)
  /-- ERASE_COMPLETION with the result of the cells (R76). -/
  | eraseCompletion (result : CellResult)
  /-- CHECK_SECTOR_COVERED (R82). -/
  | checkSectorCovered
  /-- SAVE_ERASE_PHASE_END with the result of the cells (R84). -/
  | saveErasePhaseEnd (result : CellResult)
  /-- SAVE_WRITE_PHASE_END with the result of the cells (R84). -/
  | saveWritePhaseEnd (result : CellResult)
  /-- FRAME_ARRIVAL of a complete frame with a good check (R179). -/
  | frameArrival (l : Link) (kind : Byte) (payload : List Byte)
  /-- TRANSMIT_START: the link's transmitter, being free, begins its next frame (R181). -/
  | transmitStart (l : Link)
  /-- REPORT_EVENT of one link (R194, R195). -/
  | reportEvent (l : Link)
  /-- GUARD_EXPIRY of one link (R191). -/
  | guardExpiry (l : Link)
  /-- NON_REQUEST_KIND: a frame whose kind is no request kind is taken (R180). -/
  | nonRequestKind (l : Link) (kind : Byte) (payload : List Byte)
  /-- SET_RATE (R7, R8). -/
  | setRate (l : Link) (payload : List Byte)
  /-- SET_TIME (R7, R9). -/
  | setTime (l : Link) (payload : List Byte)
  /-- NUDGE (R7, R10). -/
  | nudge (l : Link) (payload : List Byte)
  /-- SET_SITE (R25, R26). -/
  | setSite (l : Link) (payload : List Byte)
  /-- COUPLE_OFF: a COUPLE frame whose argument is not ON (R25, R28). -/
  | coupleOff (l : Link) (payload : List Byte)
  /-- COUPLE_ON: a COUPLE frame whose argument is ON (R25, R29). -/
  | coupleOn (l : Link) (payload : List Byte)
  /-- READ_TRACK (R51). -/
  | readTrack (l : Link) (payload : List Byte)
  /-- PATCH_SET (R59, R60). -/
  | patchSet (l : Link) (payload : List Byte)
  /-- PATCH_ENABLE (R59, R61). -/
  | patchEnable (l : Link) (payload : List Byte)
  /-- PATCH_DISABLE (R59, R62). -/
  | patchDisable (l : Link) (payload : List Byte)
  /-- PATCH_READ (R63). -/
  | patchRead (l : Link) (payload : List Byte)
  /-- SEGMENT_WRITE (R73). -/
  | segmentWrite (l : Link) (payload : List Byte)
  /-- SECTOR_ERASE (R75). -/
  | sectorErase (l : Link) (payload : List Byte)
  /-- ERASE_SUSPEND (R77). -/
  | eraseSuspend (l : Link) (payload : List Byte)
  /-- ERASE_RESUME (R79). -/
  | eraseResume (l : Link) (payload : List Byte)
  /-- SECTOR_CHECK (R81). -/
  | sectorCheck (l : Link) (payload : List Byte)
  /-- SAVE_PARAMETERS (R83). -/
  | saveParameters (l : Link) (payload : List Byte)
  /-- READ_SEGMENT (R86). -/
  | readSegment (l : Link) (payload : List Byte)
  /-- PROTECT (R69). -/
  | protect (l : Link) (payload : List Byte)
  /-- TRACK (R108, R109). -/
  | track (l : Link) (payload : List Byte)
  /-- MOVE (R110, R111). -/
  | move (l : Link) (payload : List Byte)
  /-- PARK (R112). -/
  | park (l : Link) (payload : List Byte)
  /-- SET_AXIS_PARAM (R113 to R115). -/
  | setAxisParam (l : Link) (payload : List Byte)
  /-- READ_AXIS (R116). -/
  | readAxis (l : Link) (payload : List Byte)
  /-- HOME (R119). -/
  | home (l : Link) (payload : List Byte)
  /-- CLEAR_FAULT: `lines` are the levels the ACTIVE check reads (R141). -/
  | clearFault (l : Link) (payload : List Byte) (lines : Lines)
  /-- SET_THERMAL_LIMIT (R144). -/
  | setThermalLimit (l : Link) (payload : List Byte)
  /-- HOLD (R153). -/
  | hold (l : Link) (payload : List Byte)
  /-- RESUME (R154 to R158). -/
  | resume (l : Link) (payload : List Byte)
  /-- SNAPSHOT_READ (R159). -/
  | snapshotRead (l : Link) (payload : List Byte)
  /-- SNAPSHOT_EDIT (R160). -/
  | snapshotEdit (l : Link) (payload : List Byte)
  /-- WATCH_SET (R173). -/
  | watchSet (l : Link) (payload : List Byte)
  /-- WATCH_ENABLE (R174). -/
  | watchEnable (l : Link) (payload : List Byte)
  /-- WATCH_DISABLE (R174). -/
  | watchDisable (l : Link) (payload : List Byte)
  /-- WATCH_CLEAR (R174). -/
  | watchClear (l : Link) (payload : List Byte)
  /-- WATCH_STATUS (R175). -/
  | watchStatus (l : Link) (payload : List Byte)
  /-- WATCH_ACKNOWLEDGE (R175). -/
  | watchAcknowledge (l : Link) (payload : List Byte)
  /-- GRANT_REQUEST (R184). -/
  | grantRequest (l : Link) (payload : List Byte)
  /-- GRANT_RELEASE (R185). -/
  | grantRelease (l : Link) (payload : List Byte)
  /-- GRANT_SEIZE (R186). -/
  | grantSeize (l : Link) (payload : List Byte)
  /-- GUARD_ARM (R189). -/
  | guardArm (l : Link) (payload : List Byte)
  /-- REPORT_INTERVAL (R194). -/
  | reportInterval (l : Link) (payload : List Byte)
  /-- READ_STATUS (R196). -/
  | readStatus (l : Link) (payload : List Byte)
  /-- LINK_RESET (R197). -/
  | linkReset (l : Link) (payload : List Byte)
  /-- CHARACTER_RECEIVED: one character of the link's line; `fault` says that its stop bit is missing (R178). -/
  | characterReceived (l : Link) (char : Byte) (fault : Bool)
  deriving DecidableEq, Repr

end Sys2Proof
end

