-- ==== Sys2Proof/Machine/Const.lean ====
section
/-! DEFINITION. The constants of the manual: limits, angles, kind codes of frames (R201) and the fixed properties of
axes and tracks (00_scope). -/

namespace Sys2Proof.Machine

/-! ### Sky clock (R1) -/

def skyMax : Int := 80787456000000000
def skyMin : Int := -80787456000000000
def rateMax : Int := 25600000000

/-! ### Angles (00_scope, "Units") -/

/-- One turn, 2^32 turn units. -/
def turn : Int := 4294967296
/-- Half a turn, 2^31. -/
def halfTurn : Int := 2147483648
/-- A quarter turn, 90 degrees. -/
def quarterTurn : Int := 1073741824
/-- The diurnal angle at the epoch (R21). -/
def gst0 : Int := 3346025510
/-- One sidereal day in ms (R21). -/
def siderealDay : Int := 86164091
/-- The precession period in ms (R24). -/
def precessionPeriod : Int := 813302467200000
/-- The bound of a segment's seconds, ten thousand Julian years (R35). -/
def segmentBound : Int := 315576000000
/-- The unit of the position within a segment, 2^24 (R43). -/
def fractionUnit : Int := 16777216

/-! ### Axes and tracks (00_scope) -/

/-- The bounded axes are 1, 5, 8, 10, 12, 14 and 16; the others are rotary. -/
def bounded (a : Axis) : Bool := [1, 5, 8, 10, 12, 14, 16].contains a.val

/-- The latitude tracks are 2, 4, 6, 8, 10 and 12; the others are longitude tracks. -/
def latitudeTrack (k : Track) : Bool := [2, 4, 6, 8, 10, 12].contains k.val

/-- The track that an axis with one track evaluates (R46). Axes 0 to 2 have none, and axis 6 has two (R48). -/
def axisTrack (a : Axis) : Option Track :=
  match a.val with
  | 3 => some 0 | 4 => some 1 | 5 => some 2
  | 7 => some 3 | 8 => some 4 | 9 => some 5 | 10 => some 6 | 11 => some 7
  | 12 => some 8 | 13 => some 9 | 14 => some 10 | 15 => some 11 | 16 => some 12
  | _ => none

/-! ### Times in real milliseconds -/

/-- The erase running time of a sector (R70, R75). -/
def eraseTime : Nat := 150
/-- The trip window (R131, R134). -/
def tripWindowTime : Nat := 1000
/-- The retry time (R131, R134). -/
def retryTime : Nat := 10

/-! ### Homing (R122, R124) -/

/-- The blanking distance of CREEP. -/
def blankingDistance : Int := 16777216
/-- The seek limit of a rotary axis, one and a quarter turns. -/
def rotarySeekLimit : Int := 5368709120

/-! ### Drive protection (R131, R143, R144) -/

/-- The built-in default of TW in degrees Celsius. -/
def defaultTw : Int := 85

/-! ### Kind codes of requests (R201) -/

def kSetRate : Byte := 0x01
def kSetTime : Byte := 0x02
def kNudge : Byte := 0x03
def kSetSite : Byte := 0x04
def kCouple : Byte := 0x05
def kReadTrack : Byte := 0x06
def kPatchSet : Byte := 0x07
def kPatchEnable : Byte := 0x08
def kPatchDisable : Byte := 0x09
def kPatchRead : Byte := 0x0A
def kSegmentWrite : Byte := 0x10
def kSectorErase : Byte := 0x11
def kEraseSuspend : Byte := 0x12
def kEraseResume : Byte := 0x13
def kSectorCheck : Byte := 0x14
def kSaveParameters : Byte := 0x15
def kReadSegment : Byte := 0x16
def kProtect : Byte := 0x17
def kTrack : Byte := 0x20
def kMove : Byte := 0x21
def kPark : Byte := 0x22
def kSetAxisParam : Byte := 0x23
def kReadAxis : Byte := 0x24
def kHome : Byte := 0x25
def kClearFault : Byte := 0x26
def kSetThermalLimit : Byte := 0x27
def kHold : Byte := 0x30
def kResume : Byte := 0x31
def kSnapshotRead : Byte := 0x32
def kSnapshotEdit : Byte := 0x33
def kWatchSet : Byte := 0x38
def kWatchEnable : Byte := 0x39
def kWatchDisable : Byte := 0x3A
def kWatchClear : Byte := 0x3B
def kWatchStatus : Byte := 0x3C
def kWatchAcknowledge : Byte := 0x3D
def kGrantRequest : Byte := 0x40
def kGrantRelease : Byte := 0x41
def kGrantSeize : Byte := 0x42
def kGuardArm : Byte := 0x48
def kReportInterval : Byte := 0x49
def kReadStatus : Byte := 0x4A
def kLinkReset : Byte := 0x4B

/-- The request kinds: every code of the first table of R201. A frame of another kind is no request (R180). -/
def requestKinds : List Byte :=
  [kSetRate, kSetTime, kNudge, kSetSite, kCouple, kReadTrack, kPatchSet, kPatchEnable, kPatchDisable, kPatchRead] ++
  [kSegmentWrite, kSectorErase, kEraseSuspend, kEraseResume, kSectorCheck, kSaveParameters, kReadSegment, kProtect] ++
  [kTrack, kMove, kPark, kSetAxisParam, kReadAxis, kHome, kClearFault, kSetThermalLimit] ++
  [kHold, kResume, kSnapshotRead, kSnapshotEdit] ++
  [kWatchSet, kWatchEnable, kWatchDisable, kWatchClear, kWatchStatus, kWatchAcknowledge] ++
  [kGrantRequest, kGrantRelease, kGrantSeize, kGuardArm, kReportInterval, kReadStatus, kLinkReset]

end Sys2Proof.Machine
end

