-- ==== Sys2Proof/WellFormed.lean ====
section
/-! DEFINITION. When a command is one that the part's surroundings can produce. `exec` is total: a command that is
not well-formed changes nothing or is handled as its meaning says, and no rule of the spec speaks of it. -/

namespace Sys2Proof

/-- A payload a frame can carry: at most 250 bytes (R178, R200). -/
def payloadFits (payload : List Byte) : Bool := payload.length ≤ Config.maxPayload

/-- Only bounded axes have end switches (R139). -/
def hasSwitch (a : Axis) : Bool := Machine.bounded a

/-- The well-formed commands. -/
def Instr.wf : Instr → Bool
  | .deviceReset trips switches =>
    decide trips.Nodup && switches.all (fun x => hasSwitch x.1) && decide switches.Nodup
  | .clockStep | .profileUpdate _ | .indexEdge _ | .qualifiedTrip _ | .retryExpiry _ _ => true
  | .endSwitch a _ => hasSwitch a
  | .tripWindowExpiry _ => true
  | .thermalSample t => -128 ≤ t && t ≤ 127
  | .writeCompletion _ | .eraseCompletion _ | .checkSectorCovered => true
  | .saveErasePhaseEnd _ | .saveWritePhaseEnd _ => true
  | .frameArrival _ _ p => payloadFits p
  | .transmitStart _ | .reportEvent _ | .guardExpiry _ => true
  | .nonRequestKind _ k p => payloadFits p && !Machine.requestKinds.contains k
  | .coupleOff _ p => payloadFits p && p != [1]
  | .coupleOn _ p => p == [1]
  | .setRate _ p | .setTime _ p | .nudge _ p | .setSite _ p | .readTrack _ p => payloadFits p
  | .patchSet _ p | .patchEnable _ p | .patchDisable _ p | .patchRead _ p => payloadFits p
  | .segmentWrite _ p | .sectorErase _ p | .eraseSuspend _ p | .eraseResume _ p => payloadFits p
  | .sectorCheck _ p | .saveParameters _ p | .readSegment _ p | .protect _ p => payloadFits p
  | .track _ p | .move _ p | .park _ p | .setAxisParam _ p | .readAxis _ p | .home _ p => payloadFits p
  | .clearFault _ p _ | .setThermalLimit _ p => payloadFits p
  | .hold _ p | .resume _ p | .snapshotRead _ p | .snapshotEdit _ p => payloadFits p
  | .watchSet _ p | .watchEnable _ p | .watchDisable _ p | .watchClear _ p => payloadFits p
  | .watchStatus _ p | .watchAcknowledge _ p => payloadFits p
  | .grantRequest _ p | .grantRelease _ p | .grantSeize _ p => payloadFits p
  | .guardArm _ p | .reportInterval _ p | .readStatus _ p | .linkReset _ p => payloadFits p
  | .characterReceived _ _ _ => true

end Sys2Proof
end

