-- ==== Sys2Proof/Decode.lean ====
section
/-! DEFINITION. Which command a word or a frame spells.
No row of spec/opcode_table.json gives bits, so `decodeTableWord` spells none. What the part itself decodes is the
kind byte of a frame taken from a link (R180, R201): `requestOf` reads it. -/

namespace Sys2Proof

/-- The command that a word spells by the table's bits. The table gives no row any bits, so there is none. -/
def decodeTableWord (_nbits _w : Nat) : Option Instr := none

open Machine in
/-- The command by which link `l` takes a frame of the given kind and payload (R180, R201). A COUPLE frame is
COUPLE_ON when its argument is ON, COUPLE_OFF otherwise. `lines` are the levels a CLEAR FAULT reads (R141). -/
def requestOf (l : Link) (lines : Lines) (kind : Byte) (p : List Byte) : Instr :=
  if kind = kSetRate then .setRate l p
  else if kind = kSetTime then .setTime l p
  else if kind = kNudge then .nudge l p
  else if kind = kSetSite then .setSite l p
  else if kind = kCouple then (if p = [1] then .coupleOn l p else .coupleOff l p)
  else if kind = kReadTrack then .readTrack l p
  else if kind = kPatchSet then .patchSet l p
  else if kind = kPatchEnable then .patchEnable l p
  else if kind = kPatchDisable then .patchDisable l p
  else if kind = kPatchRead then .patchRead l p
  else if kind = kSegmentWrite then .segmentWrite l p
  else if kind = kSectorErase then .sectorErase l p
  else if kind = kEraseSuspend then .eraseSuspend l p
  else if kind = kEraseResume then .eraseResume l p
  else if kind = kSectorCheck then .sectorCheck l p
  else if kind = kSaveParameters then .saveParameters l p
  else if kind = kReadSegment then .readSegment l p
  else if kind = kProtect then .protect l p
  else if kind = kTrack then .track l p
  else if kind = kMove then .move l p
  else if kind = kPark then .park l p
  else if kind = kSetAxisParam then .setAxisParam l p
  else if kind = kReadAxis then .readAxis l p
  else if kind = kHome then .home l p
  else if kind = kClearFault then .clearFault l p lines
  else if kind = kSetThermalLimit then .setThermalLimit l p
  else if kind = kHold then .hold l p
  else if kind = kResume then .resume l p
  else if kind = kSnapshotRead then .snapshotRead l p
  else if kind = kSnapshotEdit then .snapshotEdit l p
  else if kind = kWatchSet then .watchSet l p
  else if kind = kWatchEnable then .watchEnable l p
  else if kind = kWatchDisable then .watchDisable l p
  else if kind = kWatchClear then .watchClear l p
  else if kind = kWatchStatus then .watchStatus l p
  else if kind = kWatchAcknowledge then .watchAcknowledge l p
  else if kind = kGrantRequest then .grantRequest l p
  else if kind = kGrantRelease then .grantRelease l p
  else if kind = kGrantSeize then .grantSeize l p
  else if kind = kGuardArm then .guardArm l p
  else if kind = kReportInterval then .reportInterval l p
  else if kind = kReadStatus then .readStatus l p
  else if kind = kLinkReset then .linkReset l p
  else .nonRequestKind l kind p

open Machine in
/-- The frame that a request command takes: its link, kind and payload. An event of the outside world takes none. -/
def Instr.frame? : Instr → Option (Link × Byte × List Byte)
  | .nonRequestKind l k p => some (l, k, p)
  | .setRate l p => some (l, kSetRate, p)
  | .setTime l p => some (l, kSetTime, p)
  | .nudge l p => some (l, kNudge, p)
  | .setSite l p => some (l, kSetSite, p)
  | .coupleOff l p => some (l, kCouple, p)
  | .coupleOn l p => some (l, kCouple, p)
  | .readTrack l p => some (l, kReadTrack, p)
  | .patchSet l p => some (l, kPatchSet, p)
  | .patchEnable l p => some (l, kPatchEnable, p)
  | .patchDisable l p => some (l, kPatchDisable, p)
  | .patchRead l p => some (l, kPatchRead, p)
  | .segmentWrite l p => some (l, kSegmentWrite, p)
  | .sectorErase l p => some (l, kSectorErase, p)
  | .eraseSuspend l p => some (l, kEraseSuspend, p)
  | .eraseResume l p => some (l, kEraseResume, p)
  | .sectorCheck l p => some (l, kSectorCheck, p)
  | .saveParameters l p => some (l, kSaveParameters, p)
  | .readSegment l p => some (l, kReadSegment, p)
  | .protect l p => some (l, kProtect, p)
  | .track l p => some (l, kTrack, p)
  | .move l p => some (l, kMove, p)
  | .park l p => some (l, kPark, p)
  | .setAxisParam l p => some (l, kSetAxisParam, p)
  | .readAxis l p => some (l, kReadAxis, p)
  | .home l p => some (l, kHome, p)
  | .clearFault l p _ => some (l, kClearFault, p)
  | .setThermalLimit l p => some (l, kSetThermalLimit, p)
  | .hold l p => some (l, kHold, p)
  | .resume l p => some (l, kResume, p)
  | .snapshotRead l p => some (l, kSnapshotRead, p)
  | .snapshotEdit l p => some (l, kSnapshotEdit, p)
  | .watchSet l p => some (l, kWatchSet, p)
  | .watchEnable l p => some (l, kWatchEnable, p)
  | .watchDisable l p => some (l, kWatchDisable, p)
  | .watchClear l p => some (l, kWatchClear, p)
  | .watchStatus l p => some (l, kWatchStatus, p)
  | .watchAcknowledge l p => some (l, kWatchAcknowledge, p)
  | .grantRequest l p => some (l, kGrantRequest, p)
  | .grantRelease l p => some (l, kGrantRelease, p)
  | .grantSeize l p => some (l, kGrantSeize, p)
  | .guardArm l p => some (l, kGuardArm, p)
  | .reportInterval l p => some (l, kReportInterval, p)
  | .readStatus l p => some (l, kReadStatus, p)
  | .linkReset l p => some (l, kLinkReset, p)
  | .deviceReset _ _ | .clockStep | .profileUpdate _ | .indexEdge _ | .qualifiedTrip _ | .endSwitch _ _ => none
  | .retryExpiry _ _ | .tripWindowExpiry _ | .thermalSample _ => none
  | .writeCompletion _ | .eraseCompletion _ | .checkSectorCovered => none
  | .saveErasePhaseEnd _ | .saveWritePhaseEnd _ => none
  | .frameArrival _ _ _ | .transmitStart _ | .reportEvent _ | .guardExpiry _ | .characterReceived _ _ _ => none

end Sys2Proof
end

