-- ==== Sys2Proof/Machine/Table.lean ====
section
/-! DEFINITION. Every entry of a fixed table made or changed at once, through lists, so that Lean's kernel can evaluate
it. The laws in Sys2Proof/Laws/Table.lean say that these are the library's `Vector.map` and `Vector.ofFn`. -/

namespace Sys2Proof.Machine

/-- The same change made on every entry of a table. -/
def Table.map {α β : Type} {n : Nat} (f : α → β) (v : Vector α n) : Vector β n := ⟨⟨v.toList.map f⟩, by simp⟩

/-- The table with a given entry at each number. -/
def Table.build {α : Type} {n : Nat} (f : Fin n → α) : Vector α n := ⟨⟨List.ofFn f⟩, by simp⟩

end Sys2Proof.Machine
end

