-- ==== Sys2Proof/Machine/State.lean ====
section
/-! DEFINITION. The state of the part: every piece of state the manual names, as plain data, and the state after reset.
Where the manual says that a field is present in one mode only (a MOVE destination, a fault cause, a homing record, a
slot index), the field stands inside that mode's constructor, so that it cannot be present elsewhere. -/

namespace Sys2Proof.Machine

/-! ### Reasons a step stops -/

/-- The faults. The manual stops the part nowhere: a refused request is answered with a status, and a faulted axis is
a mode. So there is no fault (log 21). -/
inductive Fault where
  deriving DecidableEq, Repr

/-- The refusals. -/
inductive Refusal where
  /-- Raised by `exec` for a command without a meaning in this model. No arm raises it any more. Safe. -/
  | notModelled (mnemonic : String)
  deriving DecidableEq, Repr

/-! ### Frames and statuses (R200, R205) -/

/-- A frame as its kind and payload; start byte, length and check follow from them (R200). -/
structure Frame where
  kind : Byte
  payload : List Byte
  deriving DecidableEq, Repr

/-- The reply statuses (R181, R205). -/
inductive Status where
  | ok
  | clamped
  | queued
  | notGranted
  | held
  | notConsole
  | busy
  | protected_
  | notEmpty
  | notParked
  | unreferenced
  | faulted
  | active
  | owned
  | duplicate
  | enabled
  | empty
  | noOperation
  | thermal
  | locked
  | inconsistent
  | malformed
  deriving DecidableEq, Repr

/-! ### Sky clock (R1) -/

/-- Sky time T, actual rate R and target rate Rt (R1). -/
structure Clock where
  t : Int
  r : Int
  rt : Int
  deriving DecidableEq, Repr

/-! ### Star ball geometry (R18) -/

/-- The four values of R18. -/
structure StarBall where
  latitude : Int
  longitude : Int
  /-- Diurnal coupling: ON is `true`. -/
  coupled : Bool
  frozen : Int
  deriving DecidableEq, Repr

/-! ### Ephemeris (R32, R34) -/

/-- A segment with its seven fields (R34); `c0` is the value of its field, 0 to 2^32 - 1. -/
structure Segment where
  track : Track
  startS : Int
  spanS : Int
  c0 : Int
  c1 : Int
  c2 : Int
  c3 : Int
  deriving DecidableEq, Repr

/-- Slot numbers 0 to 2,015 (R67). -/
abbrev SlotNo := Fin 2016

/-- Sectors with slots, 0 to 62 (R67). -/
abbrev SectorNo := Fin 63

/-- The source state of a track record; the slot index is present in COVERED and PATCHED alone (R32). -/
inductive Source where
  | covered (slot : SlotNo)
  | patched (slot : SlotNo)
  | stale
  | uncovered
  deriving DecidableEq, Repr

/-- The name of a source state, as SOURCE CHANGE carries it (R50). -/
inductive SourceState where
  | covered
  | patched
  | stale
  | uncovered
  deriving DecidableEq, Repr

/-- A track record (R32). -/
structure TrackRecord where
  last : Int
  source : Source
  deriving DecidableEq, Repr

/-- The track records and the phase value (R32). -/
structure Evaluator where
  tracks : Vector TrackRecord 13
  phase : Int
  deriving DecidableEq, Repr

/-! ### Patch table (R56) -/

/-- A patch entry in one of its three conditions (R56). -/
inductive PatchEntry where
  | unset
  | disabled (slot : SlotNo) (segment : Segment)
  | enabled (slot : SlotNo) (segment : Segment)
  deriving DecidableEq, Repr

/-! ### Axis channels (R89, R92, R118, R131) -/

/-- A direction of motion (R92). -/
inductive Direction where
  | positive
  | negative
  deriving DecidableEq, Repr

/-- The trip filter widths (R92). -/
inductive TripFilter where
  | us0
  | us20
  | us40
  | us80
  deriving DecidableEq, Repr

/-- A trip line as last seen (R132; log 4): inactive; active with the filter width read when it became active, and not
yet qualified; or active and qualified. -/
inductive TripLine where
  | inactive
  | filtering (width : TripFilter)
  | qualified
  deriving DecidableEq, Repr

/-- How a qualified trip is handled (R92). -/
inductive RecoveryMode where
  | manual
  | retry
  deriving DecidableEq, Repr

/-- The parameters of an axis (R92). `travelMin` and `travelMax` are a bounded axis's, `wrapLimit` a rotary axis's;
on the other kind they stand at their default and nothing reads them (log 18). -/
structure AxisParams where
  gear : Int
  vmax : Int
  amax : Int
  homeSpeed : Int
  homeDirection : Direction
  indexOffset : Int
  travelMin : Int
  travelMax : Int
  wrapLimit : Int
  tolerance : Int
  tripFilter : TripFilter
  recovery : RecoveryMode
  deriving DecidableEq, Repr

/-- The phases of a homing (R118). -/
inductive HomingPhase where
  | seek
  | backoff
  | creep
  | settle
  deriving DecidableEq, Repr

/-- The homing record (R118). -/
structure HomingRecord where
  phase : HomingPhase
  seekDistance : Int
  creepDistance : Int
  deriving DecidableEq, Repr

/-- What STOPPING passes to (R89). -/
inductive NextMode where
  | parked
  | held
  deriving DecidableEq, Repr

/-- Why an axis is in FAULT (R89). -/
inductive FaultCause where
  | trip
  | endSwitch
  | homeTimeout
  | homeRange
  deriving DecidableEq, Repr

/-- The remembered prior mode of RECOVERING, with the MOVE destination or homing record kept with it (R131). -/
inductive PriorMode where
  | parked
  | track
  | move (destination : Int)
  | homing (record : HomingRecord)
  | held
  deriving DecidableEq, Repr

/-- The mode of an axis with the fields present in it (R89). `retryLeft` is the retry timer's remaining time, which
runs in RECOVERING alone (R131, R134). -/
inductive Mode where
  | parked
  | track
  | move (destination : Int)
  | homing (record : HomingRecord)
  | stopping (next : NextMode)
  | held
  | recovering (prior : PriorMode) (retryLeft : Nat)
  | fault (cause : FaultCause)
  deriving DecidableEq, Repr

/-- The name of a mode, as reports and READ AXIS carry it (R200). -/
inductive ModeName where
  | parked
  | track
  | move
  | homing
  | stopping
  | held
  | recovering
  | fault
  deriving DecidableEq, Repr

/-- One axis channel: its record (R89), its parameters (R92), what drive protection holds for it (R131), its input
lines as last seen (log 4) and the step burst that its latest update sent to its driver, 0 once it was dropped (R104,
R133; log 9). -/
structure AxisChannel where
  mode : Mode
  referenced : Bool
  lagging : Bool
  p : Int
  v : Int
  d : Int
  burst : Int
  params : AxisParams
  driveEnabled : Bool
  tripCount : Nat
  tripWindow : Option Nat
  tripLine : TripLine
  switchLow : Bool
  switchHigh : Bool
  deriving DecidableEq, Repr

/-! ### Ephemeris store (R67 to R70) -/

/-- The state of a slot (R67). -/
inductive SlotState where
  | empty
  | filled (segment : Segment)
  | spoiled
  deriving DecidableEq, Repr

/-- The parameter set (R68). -/
structure ParamSet where
  axes : Vector AxisParams 17
  latitude : Int
  longitude : Int
  tw : Int
  deriving DecidableEq, Repr

/-- The phases of a save (R84). -/
inductive SavePhase where
  | erase
  | write
  deriving DecidableEq, Repr

/-- The store state with the fields it holds (R70). -/
inductive StoreOp where
  | idle
  | erasing (sector : SectorNo) (left : Nat)
  | eraseSuspended (sector : SectorNo) (left : Nat)
  | writing (slot : SlotNo) (segment : Segment)
  | writingInSuspend (slot : SlotNo) (segment : Segment) (sector : SectorNo) (left : Nat)
  | checking (first : Nat) (count : Nat) (progress : Nat) (crc : Crc)
  | saving (phase : SavePhase) (copy : ParamSet)
  deriving DecidableEq, Repr

/-- The ephemeris store. `slots` lists the slots that are not EMPTY, by rising number (`SlotMap.wf`); `record` is the
572 bytes of sector 63; `mask` holds the protect flags of sectors 0 to 62; `deferred` is the deferred protection of
the sector being written; `defaulted` is PARAMETERS DEFAULTED (R67 to R70, R85). -/
structure Store where
  slots : List (Nat × SlotState)
  record : List Byte
  mask : Vector Bool 63
  deferred : Bool
  op : StoreOp
  defaulted : Bool
  deriving DecidableEq, Repr

/-! ### Drive protection, part-wide (R131) -/

/-- The thermal monitor (R131). -/
structure Thermal where
  /-- The thermal warning: ON is `true`. -/
  warning : Bool
  latest : Option Int
  overMark : Bool
  tw : Int
  deriving DecidableEq, Repr

/-! ### Hold controller (R146, R147) -/

/-- The axis fault kinds that are hold causes (R147). -/
inductive HoldFaultKind where
  | trip
  | endSwitch
  deriving DecidableEq, Repr

/-- Watch entries 0 to 3 (R163). -/
abbrev WatchNo := Fin 4

/-- A hold cause with its argument (R147). -/
inductive HoldCause where
  | request (l : Link)
  | watch (entry : WatchNo)
  | axisFault (a : Axis) (kind : HoldFaultKind)
  | thermal
  | guard (l : Link)
  deriving DecidableEq, Repr

/-- The modes the snapshot saves (R146). -/
inductive SavedMode where
  | track
  | move
  | parked
  deriving DecidableEq, Repr

/-- The saved mode and saved MOVE destination of one axis (R146, R149). -/
structure SavedAxis where
  mode : Option SavedMode
  destination : Option Int
  deriving DecidableEq, Repr

/-- The snapshot once filled (R146). -/
structure Snapshot where
  cause : HoldCause
  entryT : Int
  entryR : Int
  entryRt : Int
  restoreRate : Bool
  resumeTime : Int
  saved : Vector SavedAxis 17
  deriving DecidableEq, Repr

/-- The hold state with the snapshot and the pending cause. In NORMAL the snapshot is empty or shows the latest hold,
and no cause is pending; in HOLD the snapshot is filled (R146, R152). -/
inductive HoldCtl where
  | normal (snapshot : Option Snapshot)
  | hold (snapshot : Snapshot) (pendingCause : Option HoldCause)
  deriving DecidableEq, Repr

/-! ### Watch unit (R163) -/

/-- The scope of a watch entry. -/
inductive WatchScope where
  | local_
  | global
  deriving DecidableEq, Repr

/-- The subject of a watch entry. -/
inductive WatchSubject where
  | skyTime
  | axis (a : Axis)
  deriving DecidableEq, Repr

/-- The condition of a watch entry. -/
inductive WatchCondition where
  | up
  | down
  | either
  | inside
  deriving DecidableEq, Repr

/-- The action of a watch entry. -/
inductive WatchAction where
  | report
  | pause
  | hold
  deriving DecidableEq, Repr

/-- The fields of a DEFINED watch entry (R163). -/
structure WatchDef where
  owner : Link
  scope : WatchScope
  enabled : Bool
  subject : WatchSubject
  condition : WatchCondition
  reference : Int
  width : Int
  action : WatchAction
  deriving DecidableEq, Repr

/-- A watch entry, FREE or DEFINED, with its two marks (R163). -/
structure Watch where
  definition : Option WatchDef
  hit : Bool
  met : Bool
  deriving DecidableEq, Repr

/-! ### Links and grant (R178 to R196) -/

/-- Why the holder of the grant changed (R187). -/
inductive GrantReason where
  | request
  | release
  | seize
  | guard
  | linkReset
  deriving DecidableEq, Repr

/-- The action of a guard (R189). -/
inductive GuardAction where
  | release
  | hold
  deriving DecidableEq, Repr

/-- The guard intervals in real milliseconds (R189). -/
inductive GuardInterval where
  | ms50
  | ms100
  | ms200
  | ms500
  | ms1000
  | ms2000
  | ms5000
  | ms10000
  deriving DecidableEq, Repr

/-- A link guard (R189). -/
inductive Guard where
  | disarmed
  | running (interval : GuardInterval) (action : GuardAction) (left : Nat)
  | expired (interval : GuardInterval) (action : GuardAction)
  deriving DecidableEq, Repr

/-- The report intervals other than OFF (R194). -/
inductive ReportEvery where
  | ms10
  | ms20
  | ms50
  | ms100
  | ms200
  deriving DecidableEq, Repr

/-- The report interval of a link, with its timer while it is not OFF (R194). -/
inductive Reporting where
  | off
  | every (interval : ReportEvery) (left : Nat)
  deriving DecidableEq, Repr

/-- The work that a STORE DONE tells of, with its object and, for CHECK, its CRC (R88). -/
inductive StoreWork where
  | write (slot : SlotNo)
  | erase (sector : SectorNo)
  | check (first : Nat) (count : Nat) (crc : Crc)
  | save
  deriving DecidableEq, Repr

/-- The levels of the THERMAL event (R142, R143). -/
inductive ThermalLevel where
  | warningOff
  | warningOn
  | over
  deriving DecidableEq, Repr

/-- The events of the part (R193). -/
inductive Event where
  | grant (holder : Option Link) (previous : Option Link) (reason : GrantReason) (seized : Bool)
  | guardExpired (l : Link) (action : GuardAction)
  | holdEntered (cause : HoldCause) (entryT : Int)
  | resumed (t : Int) (rt : Int)
  | watch (entry : WatchNo) (subject : WatchSubject) (action : WatchAction)
  | axisFault (a : Axis) (cause : FaultCause)
  | referenced (a : Axis)
  | softLimit (a : Axis) (side : Side)
  | lagging (a : Axis)
  | skyLimit (side : Side)
  | sourceChange (k : Track) (state : SourceState)
  | storeDone (work : StoreWork) (result : CellResult)
  | thermal (level : ThermalLevel) (celsius : Int)
  deriving DecidableEq, Repr

/-- One axis in a sky report (R195). -/
structure AxisReport where
  position : Int
  mode : ModeName
  referenced : Bool
  lagging : Bool
  fault : Bool
  deriving DecidableEq, Repr

/-- A sky report as collected; the two flags are read when its transmission begins (R195). -/
structure SkyReport where
  t : Int
  r : Int
  rt : Int
  holder : Option Link
  inHold : Bool
  warning : Bool
  axes : Vector AxisReport 17
  deriving DecidableEq, Repr

/-- What READ AXIS carries (R116). -/
structure AxisReading where
  mode : ModeName
  referenced : Bool
  lagging : Bool
  p : Int
  v : Int
  d : Int
  destination : Option Int
  next : Option NextMode
  cause : Option FaultCause
  phase : Option HomingPhase
  effectiveVmax : Int
  params : AxisParams
  deriving DecidableEq, Repr

/-- What READ STATUS carries (R196). -/
structure StatusReading where
  overrun : Bool
  lineError : Bool
  defaulted : Bool
  holder : Option Link
  queue : List Link
  guard : Guard
  reporting : Reporting
  events : Nat
  deriving DecidableEq, Repr

/-- Patch entries 0 to 7 (R56). -/
abbrev PatchNo := Fin 8

/-- What a reply carries after its status (R180, R200). -/
inductive ReplyData where
  | none
  /-- The axis that caused a refusal of TRACK or HOME. -/
  | axisNumber (a : Axis)
  /-- The kind byte of a frame that is no request. -/
  | kindReceived (kind : Byte)
  | track (k : Track) (record : TrackRecord)
  | patch (n : PatchNo) (entry : PatchEntry)
  | slot (n : SlotNo) (state : SlotState)
  | axis (a : Axis) (reading : AxisReading)
  | snapshot (hold : HoldCtl)
  | watches (entries : Vector Watch 4)
  | status (reading : StatusReading)
  deriving DecidableEq, Repr

/-- A reply: the kind of the request it answers, its status and its data (R180). -/
structure Reply where
  request : Byte
  status : Status
  data : ReplyData
  deriving DecidableEq, Repr

/-- A link's receiver; `got` are the characters taken after the start byte (R178). -/
inductive Receiver where
  | hunting
  | collecting (got : List Byte)
  deriving DecidableEq, Repr

/-- One link (R178 to R196). `sending` is the frame its transmitter last began (R181; log 8). -/
structure LinkState where
  receiver : Receiver
  buffer : List Frame
  reply : Option Reply
  report : Option SkyReport
  sending : Option Frame
  events : List Event
  overrun : Bool
  lineError : Bool
  reporting : Reporting
  guard : Guard
  deriving DecidableEq, Repr

/-- The three links. -/
structure Links where
  s : LinkState
  c : LinkState
  d : LinkState
  deriving DecidableEq, Repr

/-- The grant arbiter: the controlling link and the grant queue, oldest first (R183). -/
structure Arbiter where
  holder : Option Link
  queue : List Link
  deriving DecidableEq, Repr

/-! ### The whole state -/

/-- The state of the part, with the queue of commands that wait. -/
structure State where
  clock : Clock
  ball : StarBall
  eph : Evaluator
  patches : Vector PatchEntry 8
  axes : Vector AxisChannel 17
  store : Store
  thermal : Thermal
  holdCtl : HoldCtl
  watches : Vector Watch 4
  links : Links
  grant : Arbiter
  pending : List Instr
  deriving DecidableEq, Repr

/-! ### Reset -/

/-- The built-in defaults of an axis (R93). -/
def AxisParams.builtIn : AxisParams where
  gear := 51200
  vmax := 4294967
  amax := 42949
  homeSpeed := 1073741
  homeDirection := .positive
  indexOffset := 0
  travelMin := -536870912
  travelMax := 536870912
  wrapLimit := 0
  tolerance := 11930465
  tripFilter := .us20
  recovery := .manual

/-- An axis channel at device reset, with built-in parameters: P is the index offset 0, and so D is 0 (R91, R131). -/
def AxisChannel.reset : AxisChannel where
  mode := .parked
  referenced := false
  lagging := false
  p := 0
  v := 0
  d := 0
  burst := 0
  params := AxisParams.builtIn
  driveEnabled := true
  tripCount := 0
  tripWindow := none
  tripLine := .inactive
  switchLow := false
  switchHigh := false

/-- A link at device reset (R198). -/
def LinkState.reset : LinkState where
  receiver := .hunting
  buffer := []
  reply := none
  report := none
  sending := none
  events := []
  overrun := false
  lineError := false
  reporting := .off
  guard := .disarmed

/-- The state right after power-on of a part fresh from manufacture, with no line active: every slot EMPTY, sector 63
reading 0xFF throughout, so that the start-up takes the built-in defaults and sets PARAMETERS DEFAULTED
(R2, R19, R33, R57, R67 to R69, R85, R91, R131, R146, R164, R198; log 7). -/
def State.reset : State where
  clock := { t := 0, r := 0, rt := 0 }
  ball := { latitude := 0, longitude := 0, coupled := true, frozen := 0 }
  eph := { tracks := Vector.replicate 13 { last := 0, source := .uncovered }, phase := 0 }
  patches := Vector.replicate 8 .unset
  axes := Vector.replicate 17 AxisChannel.reset
  store :=
    { slots := []
      record := List.replicate 572 255
      mask := Vector.replicate 63 true
      deferred := false
      op := .idle
      defaulted := true }
  thermal := { warning := false, latest := none, overMark := false, tw := defaultTw }
  holdCtl := .normal none
  watches := Vector.replicate 4 { definition := none, hit := false, met := false }
  links := { s := LinkState.reset, c := LinkState.reset, d := LinkState.reset }
  grant := { holder := none, queue := [] }
  pending := []

end Sys2Proof.Machine
end

