-- ==== Sys2Proof/Machine/Arith.lean ====
section
/-! DEFINITION. The manual's arithmetic (00_scope, "Arithmetic conventions"), big-endian bytes (12) and the CRC (R199).
Products and sums are exact integers. `Int`'s `/` and `%` by a positive number are the manual's floor and floor-mod. -/

namespace Sys2Proof.Machine

/-- clamp(x, lo, hi). -/
def clamp (x lo hi : Int) : Int := if x < lo then lo else if hi < x then hi else x

/-- sign(x). -/
def sgn (x : Int) : Int := if x < 0 then -1 else if 0 < x then 1 else 0

/-- |x|. -/
def mag (x : Int) : Int := if x < 0 then -x else x

/-- One more binary digit pair of a floor square root: `isqrtFuel k n` is the floor square root of any `n < 4^k`. -/
def isqrtFuel : Nat → Nat → Nat
  | 0, _ => 0
  | k + 1, n =>
    let r := 2 * isqrtFuel k (n / 4)
    if (r + 1) * (r + 1) ≤ n then r + 1 else r

/-- The floor square root of a non-negative integer. -/
def isqrt (n : Nat) : Nat := isqrtFuel (n.log2 + 1) n

/-- The floor square root of an integer that is not negative. -/
def floorSqrt (x : Int) : Int := (isqrt x.toNat : Int)

/-- x mod 2^32, a wrapped angle. -/
def wrap (x : Int) : Int := x % turn

/-- Saturation into the signed 32-bit range (R45, R203). -/
def saturate32 (x : Int) : Int := clamp x (-2147483648) 2147483647

/-! ### Big-endian fields (12) -/

/-- The unsigned value of big-endian bytes. -/
def beNat (bytes : List Byte) : Nat := bytes.foldl (fun acc b => acc * 256 + b.toNat) 0

/-- The unsigned value of a field, as an integer. -/
def beUnsigned (bytes : List Byte) : Int := (beNat bytes : Int)

/-- The two's complement value of big-endian bytes. -/
def beSigned (bytes : List Byte) : Int :=
  let n := beNat bytes
  if 2 * n < 256 ^ bytes.length then (n : Int) else (n : Int) - 256 ^ bytes.length

/-- `k` big-endian bytes of a value, two's complement when it is negative. -/
def beBytes : Nat → Int → List Byte
  | 0, _ => []
  | k + 1, x => BitVec.ofInt 8 (x / 256 ^ k) :: beBytes k x

/-- The bytes of a field at an offset of a payload or record. -/
def field (bytes : List Byte) (offset len : Nat) : List Byte := (bytes.drop offset).take len

/-! ### The CRC (R199) -/

/-- One place of the shift: combine with 0x1021 where the bit shifted out was 1. -/
def crcShift (r : Crc) : Crc := if r.msb then (r <<< 1) ^^^ 0x1021#16 else r <<< 1

/-- One byte: into the upper eight bits by exclusive-or, then eight places. -/
def crcByte (r : Crc) (b : Byte) : Crc :=
  crcShift (crcShift (crcShift (crcShift (crcShift (crcShift (crcShift (crcShift
    (r ^^^ (b.zeroExtend 16 <<< 8)))))))))

/-- Bytes fed to a running CRC, in the order they stand. -/
def crcFeed (r : Crc) (bytes : List Byte) : Crc := bytes.foldl crcByte r

/-- The CRC of a run of bytes: started at 0xFFFF, no final inversion. -/
def crcOf (bytes : List Byte) : Crc := crcFeed 0xFFFF#16 bytes

/-- A CRC as stored and sent, high byte first. -/
def crcBytes (r : Crc) : List Byte := [(r >>> 8).setWidth 8, r.setWidth 8]

end Sys2Proof.Machine
end

