-- ==== Sys2Proof/Machine/Slots.lean ====
section
/-! DEFINITION. The slots of the ephemeris store (R67), the one addressed memory of the part: a list of slot number and
state in one canonical form, numbers strictly rising and no EMPTY entry. An unlisted slot reads EMPTY, as in a part
fresh from manufacture (R67). -/

namespace Sys2Proof.Machine

/-- The state of a slot. -/
def SlotMap.read (m : List (Nat × SlotState)) (n : Nat) : SlotState :=
  match m with
  | [] => .empty
  | (k, st) :: rest => if k = n then st else SlotMap.read rest n

/-- One entry put at the head, unless it is EMPTY. -/
def SlotMap.cons (n : Nat) (st : SlotState) (rest : List (Nat × SlotState)) : List (Nat × SlotState) :=
  match st with
  | .empty => rest
  | st => (n, st) :: rest

/-- A slot set to a state, keeping the canonical form. -/
def SlotMap.write (m : List (Nat × SlotState)) (n : Nat) (st : SlotState) : List (Nat × SlotState) :=
  match m with
  | [] => SlotMap.cons n st []
  | (k, old) :: rest =>
    if n < k then SlotMap.cons n st ((k, old) :: rest)
    else if n = k then SlotMap.cons n st rest
    else (k, old) :: SlotMap.write rest n st

/-- `count` slots from `first` on set to one state. -/
def SlotMap.writeRange (m : List (Nat × SlotState)) (first : Nat) (st : SlotState) : Nat → List (Nat × SlotState)
  | 0 => m
  | count + 1 => SlotMap.writeRange (SlotMap.write m first st) (first + 1) st count

/-- Every number listed is at least `low` and they rise strictly; no entry is EMPTY; every number is a slot. -/
def SlotMap.wfFrom (low : Nat) : List (Nat × SlotState) → Bool
  | [] => true
  | (k, st) :: rest => decide (low ≤ k) && decide (k < 2016) && decide (st ≠ .empty) && SlotMap.wfFrom (k + 1) rest

/-- The canonical form. -/
def SlotMap.wf (m : List (Nat × SlotState)) : Bool := SlotMap.wfFrom 0 m

/-- The 32 slots of a sector set to one state (R67, R76). -/
def SlotMap.writeSector (m : List (Nat × SlotState)) (sector : SectorNo) (st : SlotState) : List (Nat × SlotState) :=
  SlotMap.writeRange m (32 * sector.val) st 32

/-- The sector a slot lies in (R67). -/
def slotSector (n : Nat) : Nat := n / 32

/-- Whether a sector lies in bank B, sectors 32 to 63 (R67). -/
def inBankB (sector : Nat) : Bool := 32 ≤ sector

end Sys2Proof.Machine
end

