-- ==== Sys2Proof/Machine/Formats.lean ====
section
/-! DEFINITION. The byte layouts of chapter 12: codes (R200, R205), the segment record (R202), the parameter record
(R204), the sky report (R203), events (R201) and replies (R200).
Where R200 leaves a reply's layout to the order of the fields its request's rule lists, the reading of it is DEDUCED
(log 10). -/

namespace Sys2Proof.Machine

/-! ### Codes -/

def Link.code : Link → Byte
  | .s => 1 | .c => 2 | .d => 3

/-- 0 is none or free. -/
def linkCode : Option Link → Byte
  | none => 0
  | some l => Link.code l

def boolCode (b : Bool) : Byte := if b then 1 else 0

def ModeName.code : ModeName → Byte
  | .parked => 0 | .track => 1 | .move => 2 | .homing => 3 | .stopping => 4 | .held => 5 | .recovering => 6 | .fault => 7

def SourceState.code : SourceState → Byte
  | .covered => 0 | .patched => 1 | .stale => 2 | .uncovered => 3

def HomingPhase.code : HomingPhase → Byte
  | .seek => 0 | .backoff => 1 | .creep => 2 | .settle => 3

def FaultCause.code : FaultCause → Byte
  | .trip => 0 | .endSwitch => 1 | .homeTimeout => 2 | .homeRange => 3

def Side.code : Side → Byte
  | .low => 0 | .high => 1

def CellResult.code : CellResult → Byte
  | .ok => 0 | .failed => 1

def Direction.code : Direction → Byte
  | .positive => 0 | .negative => 1

def RecoveryMode.code : RecoveryMode → Byte
  | .manual => 0 | .retry => 1

/-- A trip filter is carried as its width in microseconds (R200, R204). -/
def TripFilter.us : TripFilter → Int
  | .us0 => 0 | .us20 => 20 | .us40 => 40 | .us80 => 80

def WatchScope.code : WatchScope → Byte
  | .local_ => 0 | .global => 1

def WatchSubject.code : WatchSubject → Byte
  | .skyTime => 255
  | .axis a => BitVec.ofNat 8 a.val

def WatchCondition.code : WatchCondition → Byte
  | .up => 0 | .down => 1 | .either => 2 | .inside => 3

def WatchAction.code : WatchAction → Byte
  | .report => 0 | .pause => 1 | .hold => 2

def GuardAction.code : GuardAction → Byte
  | .release => 0 | .hold => 1

def GrantReason.code : GrantReason → Byte
  | .request => 0 | .release => 1 | .seize => 2 | .guard => 3 | .linkReset => 4

def ThermalLevel.code : ThermalLevel → Byte
  | .warningOff => 0 | .warningOn => 1 | .over => 2

def SavedMode.code : SavedMode → Byte
  | .parked => 0 | .track => 1 | .move => 2

def NextMode.code : NextMode → Byte
  | .parked => 0 | .held => 5

/-- The status codes (R205). -/
def Status.code : Status → Byte
  | .ok => 0x00 | .clamped => 0x01 | .queued => 0x02
  | .notGranted => 0x10 | .held => 0x11 | .notConsole => 0x12 | .busy => 0x13 | .protected_ => 0x14
  | .notEmpty => 0x15 | .notParked => 0x16 | .unreferenced => 0x17 | .faulted => 0x1A | .active => 0x1B
  | .owned => 0x1C | .duplicate => 0x1D | .enabled => 0x1E | .empty => 0x1F | .noOperation => 0x20
  | .thermal => 0x21 | .locked => 0x22 | .inconsistent => 0x23 | .malformed => 0x2F

/-! ### Frames on the line (R178, R200) -/

/-- The characters that follow the start byte: length, kind, payload and check. -/
def Frame.body (f : Frame) : List Byte :=
  let covered := BitVec.ofNat 8 f.payload.length :: f.kind :: f.payload
  covered ++ crcBytes (crcOf covered)

/-- The characters of a frame, start byte first. -/
def Frame.wire (f : Frame) : List Byte := 0xA5 :: Frame.body f

/-! ### Records -/

/-- A segment record, 26 bytes (R202). -/
def segmentBytes (g : Segment) : List Byte :=
  beBytes 1 (g.track.val : Int) ++ beBytes 5 g.startS ++ beBytes 4 g.spanS ++
  beBytes 4 g.c0 ++ beBytes 4 g.c1 ++ beBytes 4 g.c2 ++ beBytes 4 g.c3

/-- What a slot adds to a sector check: its state byte and, when FILLED, its segment record (R82). -/
def slotBytes : SlotState → List Byte
  | .empty => [0]
  | .filled g => 1 :: segmentBytes g
  | .spoiled => [2]

/-- One axis block of the parameter record, 33 bytes (R204). -/
def axisBlock (a : Axis) (q : AxisParams) : List Byte :=
  beBytes 3 q.gear ++ beBytes 4 q.vmax ++ beBytes 3 q.amax ++ beBytes 4 q.homeSpeed ++
  [Direction.code q.homeDirection] ++ beBytes 4 q.indexOffset ++
  (if bounded a then beBytes 4 q.travelMin ++ beBytes 4 q.travelMax else beBytes 4 q.wrapLimit ++ beBytes 4 0) ++
  beBytes 4 q.tolerance ++ beBytes 1 (TripFilter.us q.tripFilter) ++ [RecoveryMode.code q.recovery]

/-- The 570 bytes of the parameter record before its check value (R204). -/
def paramBody (ps : ParamSet) : List Byte :=
  (List.finRange 17).flatMap (fun a => axisBlock a (ps.axes.get a)) ++
  beBytes 4 ps.latitude ++ beBytes 4 ps.longitude ++ beBytes 1 ps.tw

/-- The 572 bytes of the parameter record (R68, R204). -/
def paramRecord (ps : ParamSet) : List Byte := paramBody ps ++ crcBytes (crcOf (paramBody ps))

/-- What the record reads after a failed or cut-short save, and in a part fresh from manufacture (R68). -/
def blankRecord : List Byte := List.replicate 572 255

/-- The home direction of a stored byte; codes above the listed ones are taken as the largest (log 11). -/
def directionOf (b : Nat) : Direction := if b = 0 then .positive else .negative

/-- The trip filter of a stored width; a width between two listed ones is taken as the lower (log 11). -/
def filterOf (n : Nat) : TripFilter :=
  if n < 20 then .us0 else if n < 40 then .us20 else if n < 80 then .us40 else .us80

/-- The recovery mode of a stored byte; codes above the listed ones are taken as the largest (log 11). -/
def recoveryOf (b : Nat) : RecoveryMode := if b = 0 then .manual else .retry

/-- The consistency conditions of SET AXIS PARAM (R114), on a bounded axis alone. -/
def consistent (a : Axis) (q : AxisParams) : Bool :=
  !bounded a || (decide (q.travelMin < q.travelMax) && decide (q.travelMin ≤ q.indexOffset) && decide (q.indexOffset ≤ q.travelMax))

/-- The threshold values: 60 to 115 in steps of 5, a value between them rounded down (R144). -/
def takeTw (x : Int) : Int := 5 * (clamp x 60 115 / 5)

/-- An axis block as start-up takes it: each value clamped to its range (R85, R92, R93). -/
def readBlock (a : Axis) (b : List Byte) : AxisParams :=
  let vmax := clamp (beUnsigned (field b 3 4)) 1 67108864
  { gear := clamp (beUnsigned (field b 0 3)) 1 4194304
    vmax := vmax
    amax := clamp (beUnsigned (field b 7 3)) 1 1048576
    homeSpeed := clamp (beUnsigned (field b 10 4)) 1 vmax
    homeDirection := directionOf (beNat (field b 14 1))
    indexOffset :=
      if bounded a then clamp (beSigned (field b 15 4)) (-quarterTurn) quarterTurn
      else clamp (beSigned (field b 15 4)) (-2147483648) 2147483647
    travelMin :=
      if bounded a then clamp (beSigned (field b 19 4)) (-quarterTurn) quarterTurn else AxisParams.builtIn.travelMin
    travelMax :=
      if bounded a then clamp (beSigned (field b 23 4)) (-quarterTurn) quarterTurn else AxisParams.builtIn.travelMax
    wrapLimit := if bounded a then AxisParams.builtIn.wrapLimit else clamp (beUnsigned (field b 19 4)) 0 8
    tolerance := clamp (beUnsigned (field b 27 4)) 0 2147483647
    tripFilter := filterOf (beNat (field b 31 1))
    recovery := recoveryOf (beNat (field b 32 1)) }

/-- An axis's parameters at start-up: its block as taken, or its built-in defaults whole where the block breaks a
consistency condition (R85, R93). -/
def loadAxis (record : List Byte) (a : Axis) : AxisParams :=
  let q := readBlock a (field record (33 * a.val) 33)
  if consistent a q then q else AxisParams.builtIn

/-- The parameter set that start-up loads, or none where the check value does not match (R85, R19). -/
def loadParams (record : List Byte) : Option ParamSet :=
  if record.length = 572 ∧ crcBytes (crcOf (record.take 570)) = record.drop 570 then
    some
      { axes := Table.build (loadAxis record)
        latitude := clamp (beSigned (field record 561 4)) (-quarterTurn) quarterTurn
        longitude := beUnsigned (field record 565 4)
        tw := takeTw (beSigned (field record 569 1)) }
  else none

/-- The built-in defaults (R85, R93). -/
def ParamSet.builtIn : ParamSet where
  axes := Vector.replicate 17 AxisParams.builtIn
  latitude := 0
  longitude := 0
  tw := defaultTw

/-! ### Events (R201) -/

/-- The kind byte of a hold cause's argument, and the argument's second byte. -/
def HoldFaultKind.code : HoldFaultKind → Byte
  | .trip => 0 | .endSwitch => 1

/-- A cause is three bytes (R201). -/
def causeBytes : HoldCause → List Byte
  | .request l => [0, Link.code l, 0]
  | .watch e => [1, BitVec.ofNat 8 e.val, 0]
  | .axisFault a k => [2, BitVec.ofNat 8 a.val, HoldFaultKind.code k]
  | .thermal => [3, 0, 0]
  | .guard l => [4, Link.code l, 0]

/-- Operation, object and CRC of STORE DONE (R201). -/
def storeDoneBytes (w : StoreWork) (r : CellResult) : List Byte :=
  match w with
  | .write n => [0] ++ beBytes 2 (n.val : Int) ++ [CellResult.code r, 0, 0]
  | .erase n => [1, 0, BitVec.ofNat 8 n.val, CellResult.code r, 0, 0]
  | .check b c crc => [2, BitVec.ofNat 8 b, BitVec.ofNat 8 c, CellResult.code r] ++ crcBytes crc
  | .save => [3, 0, 0, CellResult.code r, 0, 0]

/-- The frame of an event (R201). -/
def Event.frame : Event → Frame
  | .grant h p reason seized => ⟨0x60, [linkCode h, linkCode p, GrantReason.code reason, boolCode seized]⟩
  | .guardExpired l a => ⟨0x61, [Link.code l, GuardAction.code a]⟩
  | .holdEntered cause t => ⟨0x62, causeBytes cause ++ beBytes 8 t⟩
  | .resumed t rt => ⟨0x63, beBytes 8 t ++ beBytes 8 rt⟩
  | .watch e subject action => ⟨0x64, [BitVec.ofNat 8 e.val, WatchSubject.code subject, WatchAction.code action]⟩
  | .axisFault a cause => ⟨0x65, [BitVec.ofNat 8 a.val, FaultCause.code cause]⟩
  | .referenced a => ⟨0x66, [BitVec.ofNat 8 a.val]⟩
  | .softLimit a side => ⟨0x67, [BitVec.ofNat 8 a.val, Side.code side]⟩
  | .lagging a => ⟨0x68, [BitVec.ofNat 8 a.val]⟩
  | .skyLimit side => ⟨0x69, [Side.code side]⟩
  | .sourceChange k st => ⟨0x6A, [BitVec.ofNat 8 k.val, SourceState.code st]⟩
  | .storeDone w r => ⟨0x6B, storeDoneBytes w r⟩
  | .thermal level c => ⟨0x6C, [ThermalLevel.code level] ++ beBytes 1 c⟩

/-! ### The sky report (R203) -/

/-- The five bytes of one axis: position, then mode in bits 0 to 2, REFERENCED, LAGGING and FAULT. -/
def axisReportBytes (a : Axis) (x : AxisReport) : List Byte :=
  beBytes 4 (if bounded a then saturate32 x.position else x.position) ++
  [ModeName.code x.mode ||| (boolCode x.referenced <<< 3) ||| (boolCode x.lagging <<< 4) ||| (boolCode x.fault <<< 5)]

/-- The frame of a sky report, with the flags as read when its transmission begins (R195, R203). -/
def SkyReport.frame (x : SkyReport) (overrun lineError : Bool) : Frame :=
  ⟨0x70,
    beBytes 8 x.t ++ beBytes 8 x.r ++ beBytes 8 x.rt ++
    [linkCode x.holder, boolCode x.inHold, boolCode x.warning, boolCode overrun ||| (boolCode lineError <<< 1)] ++
    (List.finRange 17).flatMap (fun a => axisReportBytes a (x.axes.get a))⟩

/-! ### Replies (R200) -/

/-- A field that may be absent: a presence byte, then the field's bytes, all 0 when it is absent (R200). -/
def presence (len : Nat) : Option (List Byte) → List Byte
  | some bytes => 1 :: bytes
  | none => 0 :: List.replicate len 0

def Source.state : Source → SourceState
  | .covered _ => .covered
  | .patched _ => .patched
  | .stale => .stale
  | .uncovered => .uncovered

def Source.slot : Source → Option SlotNo
  | .covered n => some n
  | .patched n => some n
  | .stale => none
  | .uncovered => none

def trackBytes (k : Track) (x : TrackRecord) : List Byte :=
  [BitVec.ofNat 8 k.val, SourceState.code (Source.state x.source)] ++ beBytes 4 x.last ++
  presence 2 ((Source.slot x.source).map fun n => beBytes 2 (n.val : Int))

def patchBytes (n : PatchNo) : PatchEntry → List Byte
  | .unset => [BitVec.ofNat 8 n.val, 0] ++ presence 2 none ++ presence 26 none
  | .disabled m g => [BitVec.ofNat 8 n.val, 1] ++ presence 2 (some (beBytes 2 (m.val : Int))) ++ presence 26 (some (segmentBytes g))
  | .enabled m g => [BitVec.ofNat 8 n.val, 2] ++ presence 2 (some (beBytes 2 (m.val : Int))) ++ presence 26 (some (segmentBytes g))

def slotReplyBytes (n : SlotNo) : SlotState → List Byte
  | .empty => beBytes 2 (n.val : Int) ++ [0] ++ presence 26 none
  | .filled g => beBytes 2 (n.val : Int) ++ [1] ++ presence 26 (some (segmentBytes g))
  | .spoiled => beBytes 2 (n.val : Int) ++ [2] ++ presence 26 none

/-- The parameters in the order of R92, each four bytes; those the axis's kind lacks are marked absent (log 10). -/
def paramReplyBytes (a : Axis) (q : AxisParams) : List Byte :=
  beBytes 4 q.gear ++ beBytes 4 q.vmax ++ beBytes 4 q.amax ++ beBytes 4 q.homeSpeed ++
  [0, 0, 0, Direction.code q.homeDirection] ++ beBytes 4 q.indexOffset ++
  presence 4 (if bounded a then some (beBytes 4 q.travelMin) else none) ++
  presence 4 (if bounded a then some (beBytes 4 q.travelMax) else none) ++
  presence 4 (if bounded a then none else some (beBytes 4 q.wrapLimit)) ++
  beBytes 4 q.tolerance ++ beBytes 4 (TripFilter.us q.tripFilter) ++ [0, 0, 0, RecoveryMode.code q.recovery]

def axisReplyBytes (a : Axis) (x : AxisReading) : List Byte :=
  [BitVec.ofNat 8 a.val, boolCode (bounded a), ModeName.code x.mode, boolCode x.referenced, boolCode x.lagging] ++
  beBytes 8 x.p ++ beBytes 4 x.v ++ beBytes 8 x.d ++
  presence 8 (x.destination.map (beBytes 8)) ++
  presence 1 (x.next.map fun n => [NextMode.code n]) ++
  presence 1 (x.cause.map fun n => [FaultCause.code n]) ++
  presence 1 (x.phase.map fun n => [HomingPhase.code n]) ++
  beBytes 4 x.effectiveVmax ++ paramReplyBytes a x.params

/-- The snapshot's fields, each marked absent in an empty snapshot (R146, R159; log 10). -/
def snapshotBytes (h : HoldCtl) : List Byte :=
  let snap : Option Snapshot := match h with | .normal s => s | .hold s _ => some s
  let pending : Option HoldCause := match h with | .normal _ => none | .hold _ c => c
  [boolCode (match h with | .normal _ => false | .hold _ _ => true)] ++
  presence 3 (snap.map fun s => causeBytes s.cause) ++
  presence 3 (pending.map causeBytes) ++
  presence 8 (snap.map fun s => beBytes 8 s.entryT) ++
  presence 8 (snap.map fun s => beBytes 8 s.entryR) ++
  presence 8 (snap.map fun s => beBytes 8 s.entryRt) ++
  presence 1 (snap.map fun s => [boolCode s.restoreRate]) ++
  presence 8 (snap.map fun s => beBytes 8 s.resumeTime) ++
  (List.finRange 17).flatMap fun a =>
    presence 1 (snap.bind fun s => (s.saved.get a).mode.map fun m => [SavedMode.code m]) ++
    presence 8 (snap.bind fun s => (s.saved.get a).destination.map (beBytes 8))

/-- One watch entry with its marks (R175; log 10). -/
def watchBytes (w : Watch) : List Byte :=
  [boolCode w.definition.isSome] ++
  presence 1 (w.definition.map fun x => [Link.code x.owner]) ++
  presence 1 (w.definition.map fun x => [WatchScope.code x.scope]) ++
  presence 1 (w.definition.map fun x => [boolCode x.enabled]) ++
  presence 1 (w.definition.map fun x => [WatchSubject.code x.subject]) ++
  presence 1 (w.definition.map fun x => [WatchCondition.code x.condition]) ++
  presence 8 (w.definition.map fun x => beBytes 8 x.reference) ++
  presence 4 (w.definition.map fun x => beBytes 4 x.width) ++
  presence 1 (w.definition.map fun x => [WatchAction.code x.action]) ++
  [boolCode w.hit, boolCode w.met]

/-- A guard interval in real milliseconds (R189). -/
def GuardInterval.ms : GuardInterval → Nat
  | .ms50 => 50 | .ms100 => 100 | .ms200 => 200 | .ms500 => 500
  | .ms1000 => 1000 | .ms2000 => 2000 | .ms5000 => 5000 | .ms10000 => 10000

/-- A report interval in real milliseconds (R194). -/
def ReportEvery.ms : ReportEvery → Nat
  | .ms10 => 10 | .ms20 => 20 | .ms50 => 50 | .ms100 => 100 | .ms200 => 200

def guardBytes : Guard → List Byte
  | .disarmed => [0] ++ presence 2 none ++ presence 1 none
  | .running i a _ => [1] ++ presence 2 (some (beBytes 2 (GuardInterval.ms i : Int))) ++ presence 1 (some [GuardAction.code a])
  | .expired i a => [2] ++ presence 2 (some (beBytes 2 (GuardInterval.ms i : Int))) ++ presence 1 (some [GuardAction.code a])

def reportingByte : Reporting → Byte
  | .off => 0
  | .every i _ => BitVec.ofNat 8 (ReportEvery.ms i)

/-- READ STATUS; the queue is two link codes, 0 where fewer wait (R196; log 10). -/
def statusBytes (x : StatusReading) : List Byte :=
  [boolCode x.overrun, boolCode x.lineError, boolCode x.defaulted, linkCode x.holder] ++
  [linkCode x.queue[0]?, linkCode x.queue[1]?] ++ guardBytes x.guard ++
  [reportingByte x.reporting, BitVec.ofNat 8 x.events]

def ReplyData.bytes : ReplyData → List Byte
  | .none => []
  | .axisNumber a => [BitVec.ofNat 8 a.val]
  | .kindReceived k => [k]
  | .track k x => trackBytes k x
  | .patch n x => patchBytes n x
  | .slot n x => slotReplyBytes n x
  | .axis a x => axisReplyBytes a x
  | .snapshot h => snapshotBytes h
  | .watches w => (List.finRange 4).flatMap fun i => watchBytes (w.get i)
  | .status x => statusBytes x

/-- The frame of a reply: the request's kind plus 0x80, or 0xFF for a frame that was no request (R200). -/
def Reply.frame (x : Reply) : Frame :=
  ⟨if requestKinds.contains x.request then x.request + 0x80 else 0xFF, Status.code x.status :: ReplyData.bytes x.data⟩

end Sys2Proof.Machine
end

