-- ==== Sys2Proof/Machine/Operands.lean ====
section
/-! DEFINITION. The operands of requests: each payload read by the layout of R200 to R202, `none` where the form checks
refuse it MALFORMED (a wrong length, a value outside its listed values, a number above its last). -/

namespace Sys2Proof.Machine

/-- A number carried in one byte, below a bound. -/
def readNo (bound : Nat) (bytes : List Byte) : Option (Fin bound) :=
  if h : beNat bytes < bound then some ⟨beNat bytes, h⟩ else none

/-- A payload of the fixed length of its kind (R200, R201). -/
def ofLength {α : Type} (n : Nat) (p : List Byte) (x : Option α) : Option α := if p.length = n then x else none

/-- The requests whose payload is empty. -/
def readEmpty (p : List Byte) : Option Unit := ofLength 0 p (some ())

/-- One signed eight-byte value: SET RATE, SET TIME, NUDGE. -/
def readSigned8 (p : List Byte) : Option Int := ofLength 8 p (some (beSigned p))

/-- SET SITE: latitude, then longitude taken mod 2^32 (R26). -/
def readSite (p : List Byte) : Option (Int × Int) :=
  ofLength 8 p (some (beSigned (field p 0 4), wrap (beUnsigned (field p 4 4))))

/-- ON or OFF (R200). -/
def readOnOff (bytes : List Byte) : Option Bool :=
  match beNat bytes with
  | 0 => some false
  | 1 => some true
  | _ => none

/-- A track number of one byte (R51). -/
def readTrackNo (p : List Byte) : Option Track := ofLength 1 p (readNo 13 p)

/-- A patch entry number of one byte (R59, R63). -/
def readPatchNo (p : List Byte) : Option PatchNo := ofLength 1 p (readNo 8 p)

/-- A watch entry number of one byte (R174). -/
def readWatchNo (p : List Byte) : Option WatchNo := ofLength 1 p (readNo 4 p)

/-- An axis number of one byte. -/
def readAxisNo (p : List Byte) : Option Axis := ofLength 1 p (readNo 17 p)

/-- A well-formed segment (R35); the track is a track by its type. -/
def segmentWf (g : Segment) : Bool :=
  decide (1 ≤ g.spanS) && decide (-segmentBound ≤ g.startS) && decide (g.startS + g.spanS ≤ segmentBound)

/-- A segment record of 26 bytes, refused when it is malformed (R34, R35, R202). -/
def readSegmentRecord (b : List Byte) : Option Segment :=
  match readNo 13 (field b 0 1) with
  | none => none
  | some k =>
    let g : Segment :=
      { track := k
        startS := beSigned (field b 1 5)
        spanS := beUnsigned (field b 6 4)
        c0 := beUnsigned (field b 10 4)
        c1 := beSigned (field b 14 4)
        c2 := beSigned (field b 18 4)
        c3 := beSigned (field b 22 4) }
    if segmentWf g then some g else none

/-- PATCH SET: entry, slot index, segment (R59). -/
def readPatchSet (p : List Byte) : Option (PatchNo × SlotNo × Segment) :=
  ofLength 29 p <| match readNo 8 (field p 0 1), readNo 2016 (field p 1 2), readSegmentRecord (field p 3 26) with
    | some e, some n, some g => some (e, n, g)
    | _, _, _ => none

/-- SEGMENT WRITE: slot, segment (R73). -/
def readSegmentWrite (p : List Byte) : Option (SlotNo × Segment) :=
  ofLength 28 p <| match readNo 2016 (field p 0 2), readSegmentRecord (field p 2 26) with
    | some n, some g => some (n, g)
    | _, _ => none

/-- A slot number of two bytes (R86). -/
def readSlotNo (p : List Byte) : Option SlotNo := ofLength 2 p (readNo 2016 p)

/-- A sector number of one byte, 0 to 63 (R75). -/
def readSector (p : List Byte) : Option (Fin 64) := ofLength 1 p (readNo 64 p)

/-- A sector as one with slots; sector 63 is none (R67). -/
def slotSectorOf (n : Fin 64) : Option SectorNo := if h : n.val < 63 then some ⟨n.val, h⟩ else none

/-- SECTOR CHECK: begin and count, unsigned (R81). -/
def readCheck (p : List Byte) : Option (Nat × Nat) := ofLength 2 p (some (beNat (field p 0 1), beNat (field p 1 1)))

/-- PROTECT: sector, ON or OFF (R69). -/
def readProtect (p : List Byte) : Option (Fin 64 × Bool) :=
  ofLength 2 p <| match readNo 64 (field p 0 1), readOnOff (field p 1 1) with
    | some n, some b => some (n, b)
    | _, _ => none

/-- An axis set of three bytes: its axes in ascending order; a set naming no axis or bits 17 to 23 is malformed (R200). -/
def readAxisSet (p : List Byte) : Option (List Axis) :=
  let n := beNat p
  ofLength 3 p (if n = 0 ∨ 2 ^ 17 ≤ n then none else some ((List.finRange 17).filter fun a => n.testBit a.val))

/-- The directions of MOVE (R110). -/
inductive MoveDirection where
  | shortest
  | positive
  | negative
  deriving DecidableEq, Repr

def readMoveDirection (bytes : List Byte) : Option MoveDirection :=
  match beNat bytes with
  | 0 => some .shortest
  | 1 => some .positive
  | 2 => some .negative
  | _ => none

/-- MOVE: axis, value (a wrapped angle on a rotary axis, a signed position on a bounded one), direction (R110, R111). -/
def readMove (p : List Byte) : Option (Axis × Int × MoveDirection) :=
  ofLength 6 p <| match readNo 17 (field p 0 1), readMoveDirection (field p 5 1) with
    | some a, some dir => some (a, if bounded a then beSigned (field p 1 4) else beUnsigned (field p 1 4), dir)
    | _, _ => none

/-- A parameter of R92 with the value carried for it. -/
inductive ParamValue where
  | gear (x : Int)
  | vmax (x : Int)
  | amax (x : Int)
  | homeSpeed (x : Int)
  | homeDirection (x : Direction)
  | indexOffset (x : Int)
  | travelMin (x : Int)
  | travelMax (x : Int)
  | wrapLimit (x : Int)
  | tolerance (x : Int)
  | tripFilter (x : TripFilter)
  | recovery (x : RecoveryMode)
  deriving DecidableEq, Repr

/-- The parameter of a code with its four-byte value, unsigned where its range is unsigned; refused where the
parameter does not exist for the kind of the axis or the enumerated value is not listed (R113, R200). -/
def readParamValue (isBounded : Bool) (code : Nat) (value : List Byte) : Option ParamValue :=
  match code with
  | 0 => some (.gear (beUnsigned value))
  | 1 => some (.vmax (beUnsigned value))
  | 2 => some (.amax (beUnsigned value))
  | 3 => some (.homeSpeed (beUnsigned value))
  | 4 => if beNat value = 0 then some (.homeDirection .positive)
         else if beNat value = 1 then some (.homeDirection .negative) else none
  | 5 => some (.indexOffset (beSigned value))
  | 6 => if isBounded then some (.travelMin (beSigned value)) else none
  | 7 => if isBounded then some (.travelMax (beSigned value)) else none
  | 8 => if isBounded then none else some (.wrapLimit (beUnsigned value))
  | 9 => some (.tolerance (beUnsigned value))
  | 10 => if beNat value = 0 then some (.tripFilter .us0)
          else if beNat value = 20 then some (.tripFilter .us20)
          else if beNat value = 40 then some (.tripFilter .us40)
          else if beNat value = 80 then some (.tripFilter .us80) else none
  | 11 => if beNat value = 0 then some (.recovery .manual)
          else if beNat value = 1 then some (.recovery .retry) else none
  | _ => none

/-- SET AXIS PARAM: axis, parameter, value (R113). -/
def readAxisParam (p : List Byte) : Option (Axis × ParamValue) :=
  ofLength 6 p <| match readNo 17 (field p 0 1) with
    | some a => (readParamValue (bounded a) (beNat (field p 1 1)) (field p 2 4)).map fun x => (a, x)
    | none => none

/-- SET THERMAL LIMIT: a temperature, one signed byte (R144, R200; log 13). -/
def readTw (p : List Byte) : Option Int := ofLength 1 p (some (beSigned p))

/-- SNAPSHOT EDIT: flag, resume time (R160). -/
def readSnapshotEdit (p : List Byte) : Option (Bool × Int) :=
  ofLength 9 p ((readOnOff (field p 0 1)).map fun b => (b, beSigned (field p 1 8)))

def readScope (bytes : List Byte) : Option WatchScope :=
  match beNat bytes with
  | 0 => some .local_
  | 1 => some .global
  | _ => none

/-- 0 to 16 is an axis, 255 sky time (R200). -/
def readSubject (bytes : List Byte) : Option WatchSubject :=
  if beNat bytes = 255 then some .skyTime else (readNo 17 bytes).map .axis

def readCondition (bytes : List Byte) : Option WatchCondition :=
  match beNat bytes with
  | 0 => some .up
  | 1 => some .down
  | 2 => some .either
  | 3 => some .inside
  | _ => none

def readAction (bytes : List Byte) : Option WatchAction :=
  match beNat bytes with
  | 0 => some .report
  | 1 => some .pause
  | 2 => some .hold
  | _ => none

/-- The fields of WATCH SET as carried (R173). -/
structure WatchRequest where
  entry : WatchNo
  scope : WatchScope
  subject : WatchSubject
  condition : WatchCondition
  reference : Int
  width : Int
  action : WatchAction
  deriving DecidableEq, Repr

/-- WATCH SET; the combination SKY TIME, INSIDE and PAUSE is malformed (R173). -/
def readWatchSet (p : List Byte) : Option WatchRequest :=
  ofLength 17 p <| match readNo 4 (field p 0 1), readScope (field p 1 1), readSubject (field p 2 1),
      readCondition (field p 3 1), readAction (field p 16 1) with
    | some e, some sc, some su, some co, some ac =>
      if su = .skyTime ∧ co = .inside ∧ ac = .pause then none
      else some { entry := e, scope := sc, subject := su, condition := co, reference := beSigned (field p 4 8), width := beUnsigned (field p 12 4), action := ac }
    | _, _, _, _, _ => none

/-- WATCH ACKNOWLEDGE: the byte of marks (R175, R201). -/
def readMarks (p : List Byte) : Option Nat := ofLength 1 p (some (beNat p))

def readGuardInterval (bytes : List Byte) : Option GuardInterval :=
  match beNat bytes with
  | 50 => some .ms50
  | 100 => some .ms100
  | 200 => some .ms200
  | 500 => some .ms500
  | 1000 => some .ms1000
  | 2000 => some .ms2000
  | 5000 => some .ms5000
  | 10000 => some .ms10000
  | _ => none

/-- GUARD ARM: interval, action (R189). -/
def readGuardArm (p : List Byte) : Option (GuardInterval × GuardAction) :=
  ofLength 3 p <| match readGuardInterval (field p 0 2), beNat (field p 2 1) with
    | some i, 0 => some (i, .release)
    | some i, 1 => some (i, .hold)
    | _, _ => none

/-- REPORT INTERVAL: `none` inside is OFF (R194). -/
def readReportInterval (p : List Byte) : Option (Option ReportEvery) :=
  ofLength 1 p <| match beNat p with
    | 0 => some none
    | 10 => some (some .ms10)
    | 20 => some (some .ms20)
    | 50 => some (some .ms50)
    | 100 => some (some .ms100)
    | 200 => some (some .ms200)
    | _ => none

end Sys2Proof.Machine
end

