-- ==== Sys2Proof/Machine/Flags.lean ====
section
/-! DEFINITION. The flags of the part: OVERRUN and LINE ERROR of a link (R178, R179, R193, R195, R196), the views that
reports and READ AXIS give of a mode (R116, R195), and the thermal warning's effect on vmax (R94). -/

namespace Sys2Proof.Machine

/-- LINE ERROR set (R178). -/
def LinkState.raiseLineError (x : LinkState) : LinkState := { x with lineError := true }

/-- OVERRUN set (R179, R193). -/
def LinkState.raiseOverrun (x : LinkState) : LinkState := { x with overrun := true }

/-- Both flags cleared (R195, R196, R197). -/
def LinkState.clearFlags (x : LinkState) : LinkState := { x with overrun := false, lineError := false }

/-- The name of a mode (R89). -/
def Mode.name : Mode → ModeName
  | .parked => .parked
  | .track => .track
  | .move _ => .move
  | .homing _ => .homing
  | .stopping _ => .stopping
  | .held => .held
  | .recovering _ _ => .recovering
  | .fault _ => .fault

/-- Whether an axis is in FAULT. -/
def Mode.isFault : Mode → Bool
  | .fault _ => true
  | _ => false

/-- The effective vmax: vmax, or half of it rounded down while the thermal warning is on (R94). -/
def effectiveVmax (warning : Bool) (q : AxisParams) : Int := if warning then q.vmax / 2 else q.vmax

end Sys2Proof.Machine
end

