-- ==== Sys2Proof/Machine/Ops.lean ====
section
/-! DEFINITION. The shared operations: updates of one block of the state, events to all links (R193), the taking of a
request and its reply (R180), the grant (R183, R185, R187), stops and pins of the clock (R13 to R15), hold entry
(R147 to R152) and the watch unit's testing of a change (R165 to R172). -/

namespace Sys2Proof.Machine

abbrev Result := Host.Outcome State Fault Refusal

/-! ### Updates of one block -/

def State.setClock (s : State) (x : Clock) : State := { s with clock := x }
def State.setBall (s : State) (x : StarBall) : State := { s with ball := x }
def State.setEph (s : State) (x : Evaluator) : State := { s with eph := x }
def State.setPatches (s : State) (x : Vector PatchEntry 8) : State := { s with patches := x }
def State.setAxes (s : State) (x : Vector AxisChannel 17) : State := { s with axes := x }
def State.setStore (s : State) (x : Store) : State := { s with store := x }
def State.setThermal (s : State) (x : Thermal) : State := { s with thermal := x }
def State.setHold (s : State) (x : HoldCtl) : State := { s with holdCtl := x }
def State.setWatches (s : State) (x : Vector Watch 4) : State := { s with watches := x }
def State.setLinks (s : State) (x : Links) : State := { s with links := x }
def State.setGrant (s : State) (x : Arbiter) : State := { s with grant := x }

/-- One axis channel. -/
def State.axis (s : State) (a : Axis) : AxisChannel := s.axes.get a

/-- One axis channel replaced. -/
def State.setAxis (s : State) (a : Axis) (c : AxisChannel) : State := s.setAxes (s.axes.set a.val c a.isLt)

def Links.get (x : Links) : Link → LinkState
  | .s => x.s
  | .c => x.c
  | .d => x.d

def Links.set (x : Links) (l : Link) (y : LinkState) : Links :=
  match l with
  | .s => { x with s := y }
  | .c => { x with c := y }
  | .d => { x with d := y }

/-- The same change made on every link. -/
def Links.map (f : LinkState → LinkState) (x : Links) : Links := { s := f x.s, c := f x.c, d := f x.d }

/-- One link. -/
def State.link (s : State) (l : Link) : LinkState := s.links.get l

/-- One link replaced. -/
def State.setLink (s : State) (l : Link) (x : LinkState) : State := s.setLinks (s.links.set l x)

/-- Whether the hold state is HOLD (R146). -/
def State.inHold (s : State) : Bool :=
  match s.holdCtl with
  | .normal _ => false
  | .hold _ _ => true

/-! ### Events (R193) -/

/-- An event appended to a link's queue, or lost for that link with OVERRUN set when the queue is full (R193). -/
def LinkState.push (e : Event) (x : LinkState) : LinkState :=
  if x.events.length < Config.eventDepth then { x with events := x.events ++ [e] } else LinkState.raiseOverrun x

/-- An event sent to all three links (R193). -/
def State.send (s : State) (e : Event) : State := s.setLinks (s.links.map (LinkState.push e))

/-! ### Taking a request and answering it (R180) -/

/-- What the owning block makes of a request: the state, and the reply's status and data. -/
structure Handled where
  state : State
  status : Status
  data : ReplyData
  deriving DecidableEq, Repr

/-- An answer that carries a status alone. -/
def answer (s : State) (status : Status) : Handled := ⟨s, status, .none⟩

/-- An answer with data. -/
def answerWith (s : State) (status : Status) (data : ReplyData) : Handled := ⟨s, status, data⟩

/-- The reply slot is empty, and the frame is the oldest of the input buffer, or the buffer is empty and the frame is
handed over at the taking itself (R180; log 3). -/
def State.canTake (s : State) (l : Link) (f : Frame) : Bool :=
  (s.link l).reply.isNone &&
    (match (s.link l).buffer with
      | [] => true
      | g :: _ => decide (g = f))

/-- The oldest frame leaves the input buffer (R180). -/
def State.dropFrame (s : State) (l : Link) : State :=
  s.setLink l { s.link l with buffer := (s.link l).buffer.tail }

/-- A reply placed in the link's reply slot (R180). -/
def State.putReply (s : State) (l : Link) (r : Reply) : State := s.setLink l { s.link l with reply := some r }

/-- A request taken from a link: the frame leaves the buffer, the owning block handles it, and its one reply goes into
the reply slot. Where the link cannot take it yet, nothing happens (R180; log 3). -/
def take (l : Link) (f : Frame) (handle : State → Handled) (s : State) : Result :=
  if s.canTake l f then
    let h := handle (s.dropFrame l)
    .next (h.state.putReply l { request := f.kind, status := h.status, data := h.data })
  else .next s

/-- The grant check of a grant-bound request (R182). -/
def needGrant (s : State) (l : Link) (h : Handled) : Handled :=
  if s.grant.holder = some l then h else answer s .notGranted

/-- The refusal in hold (R7, R107, R119). -/
def needNormal (s : State) (h : Handled) : Handled := if s.inHold then answer s .held else h

/-- The status of a value that may have been clamped. -/
def clampedIf (b : Bool) : Status := if b then .clamped else .ok

/-! ### Stops, pins and releases of the clock (R13 to R15) -/

/-- A stop: both rates 0, T as it stands (R13). -/
def Clock.stop (c : Clock) : Clock := { c with r := 0, rt := 0 }

/-- A pin: T at the given value, both rates 0 (R14). -/
def Clock.pin (t : Int) : Clock := { t := t, r := 0, rt := 0 }

/-- A release of the target (R15). -/
def Clock.releaseTarget (c : Clock) : Clock := { c with rt := 0 }

/-- Sky time clamped to its range (R1). -/
def clampSky (t : Int) : Int := clamp t skyMin skyMax

/-! ### Hold entry (R148 to R150) -/

/-- Where an axis channel goes at hold entry, by its mode (R149). HELD does not occur in NORMAL and is left (log 16). -/
def holdTreat (c : AxisChannel) : AxisChannel :=
  match c.mode with
  | .track => { c with mode := .stopping .held, lagging := false }
  | .move _ => { c with mode := .stopping .held }
  | .homing _ => { c with mode := .stopping .held, referenced := false }
  | .stopping _ => { c with mode := .stopping .held }
  | .parked => { c with mode := .held }
  | .recovering _ left => { c with mode := .recovering .held left }
  | .held => c
  | .fault _ => c

/-- What the snapshot saves of an axis (R149). -/
def holdSave (c : AxisChannel) : SavedAxis :=
  match c.mode with
  | .track => ⟨some .track, none⟩
  | .move x => ⟨some .move, some x⟩
  | .homing _ => ⟨some .parked, none⟩
  | .stopping _ => ⟨some .parked, none⟩
  | .parked => ⟨some .parked, none⟩
  | .held => ⟨some .parked, none⟩
  | .recovering (.move x) _ => ⟨some .move, some x⟩
  | .recovering .track _ => ⟨some .track, none⟩
  | .recovering _ _ => ⟨some .parked, none⟩
  | .fault _ => ⟨none, none⟩

/-- The snapshot that hold entry fills (R148). -/
def takeSnapshot (s : State) (cause : HoldCause) : Snapshot where
  cause := cause
  entryT := s.clock.t
  entryR := s.clock.r
  entryRt := s.clock.rt
  restoreRate := decide (s.clock.r ≠ 0) || decide (s.clock.rt ≠ 0)
  resumeTime := s.clock.t
  saved := Table.map holdSave s.axes

/-- Hold entry: the snapshot, the stop of the clock, each axis by its mode, and HOLD ENTERED (R148 to R150). -/
def enterHold (s : State) (cause : HoldCause) : State :=
  ((((s.setHold (.hold (takeSnapshot s cause) none)).setClock s.clock.stop).setAxes (Table.map holdTreat s.axes)).send
    (.holdEntered cause s.clock.t))

/-- A hold cause handed over by a block: hold entry in NORMAL; in HOLD it is latched if none is pending, and dropped
otherwise (R147, R152). -/
def handCause (s : State) (cause : HoldCause) : State :=
  match s.holdCtl with
  | .normal _ => enterHold s cause
  | .hold snap none => s.setHold (.hold snap (some cause))
  | .hold _ (some _) => s

/-! ### The grant (R183, R185, R187) -/

/-- A LOCAL entry disabled (R176). -/
def Watch.disableLocal (x : Watch) : Watch :=
  match x.definition with
  | some w => if w.scope = .local_ then { x with definition := some { w with enabled := false } } else x
  | none => x

/-- A grant change: the new holder and queue, every LOCAL watch entry disabled, and GRANT to every link
(R176, R187). -/
def grantChange (s : State) (holder : Option Link) (queue : List Link) (reason : GrantReason) : State :=
  (((s.setGrant { holder := holder, queue := queue }).setWatches (Table.map Watch.disableLocal s.watches)).send
    (.grant holder s.grant.holder reason (decide (reason = .seize))))

/-- The grant given up by its holder: to the oldest waiter, or free (R185). -/
def releaseGrant (s : State) (reason : GrantReason) : State :=
  match s.grant.queue with
  | [] => grantChange s none [] reason
  | q :: rest => grantChange s (some q) rest reason

/-- A waiting link leaves the queue (R185, R191, R197). -/
def leaveQueue (s : State) (l : Link) : State := s.setGrant { s.grant with queue := s.grant.queue.erase l }

/-! ### The watch unit (R165 to R172) -/

/-- A change handed to the watch unit: a linear step or jump from an old to a new value, or a step of a rotary axis
from a wrapped angle by a signed change (R165, R166). -/
inductive Change where
  | step (old new : Int)
  | jump (old new : Int)
  | around (angle delta : Int)
  deriving DecidableEq, Repr

/-- UP (R167, R168). -/
def upMet (reference : Int) : Change → Bool
  | .step a b => decide (a < reference) && decide (reference ≤ b)
  | .jump _ _ => false
  | .around w delta => decide (0 < wrap (reference - w)) && decide (wrap (reference - w) ≤ delta)

/-- DOWN (R167, R168). -/
def downMet (reference : Int) : Change → Bool
  | .step a b => decide (b ≤ reference) && decide (reference < a)
  | .jump _ _ => false
  | .around w delta => decide (0 < wrap (w - reference)) && decide (wrap (w - reference) ≤ -delta)

/-- Whether a linear value lies in [reference, reference + width) (R169). -/
def insideLinear (reference width x : Int) : Bool := decide (reference ≤ x) && decide (x < reference + width)

/-- Whether a wrapped angle lies inside the interval that runs forward from the reference (R169). -/
def insideTurn (reference width x : Int) : Bool := decide (wrap (x - reference) < width)

/-- INSIDE: the old value outside and the new one inside (R169). -/
def insideMet (reference width : Int) : Change → Bool
  | .step a b => !insideLinear reference width a && insideLinear reference width b
  | .jump a b => !insideLinear reference width a && insideLinear reference width b
  | .around w delta => !insideTurn reference width w && insideTurn reference width (wrap (w + delta))

/-- Whether an entry's condition is met by a change; on a jump only INSIDE can be (R165, R167 to R169). -/
def conditionMet (w : WatchDef) (ch : Change) : Bool :=
  match w.condition with
  | .up => upMet w.reference ch
  | .down => downMet w.reference ch
  | .either => upMet w.reference ch || downMet w.reference ch
  | .inside => insideMet w.reference w.width ch

/-- A DEFINED entry of this subject whose condition the change meets. -/
def Watch.meets (subject : WatchSubject) (ch : Change) (x : Watch) : Bool :=
  match x.definition with
  | none => false
  | some w => decide (w.subject = subject) && conditionMet w ch

/-- An entry fires when it is enabled and met (R170). -/
def Watch.fires (subject : WatchSubject) (ch : Change) (x : Watch) : Bool :=
  match x.definition with
  | none => false
  | some w => w.enabled && decide (w.subject = subject) && conditionMet w ch

/-- The marks of one entry on a change: HIT where it fires; MET where it is met but not enabled and another entry of
the subject fired (R170). -/
def Watch.mark (subject : WatchSubject) (ch : Change) (someFired : Bool) (x : Watch) : Watch :=
  if x.fires subject ch then { x with hit := true }
  else if someFired && x.meets subject ch then { x with met := true }
  else x

/-- The entries that fire, in ascending order. -/
def firedEntries (s : State) (subject : WatchSubject) (ch : Change) : List WatchNo :=
  (List.finRange 4).filter fun i => (s.watches.get i).fires subject ch

/-- The fired entries with an action. -/
def firedWith (s : State) (subject : WatchSubject) (ch : Change) (action : WatchAction) : List WatchNo :=
  (firedEntries s subject ch).filter fun i =>
    match (s.watches.get i).definition with
    | some w => decide (w.action = action)
    | none => false

/-- The reference of an entry. -/
def watchReference (s : State) (i : WatchNo) : Int :=
  match (s.watches.get i).definition with
  | some w => w.reference
  | none => 0

/-- The WATCH event of a fired entry (R170). -/
def sendWatch (s : State) (i : WatchNo) : State :=
  match (s.watches.get i).definition with
  | some w => s.send (.watch i w.subject w.action)
  | none => s

/-- The PAUSE of fired entries: on a clock step, a pin to the reference met first in the direction of travel; else a
stop (R13, R14, R171, R172, R158; log 22). -/
def pauseClock (c : Clock) (subject : WatchSubject) (ch : Change) (references : List Int) : Clock :=
  match references with
  | [] => c
  | r :: rest =>
    match subject, ch with
    | .skyTime, .step a b => Clock.pin (if a < b then rest.foldl min r else rest.foldl max r)
    | _, _ => c.stop

/-- A change tested by the watch unit: marks, WATCH events, then the PAUSE actions, then the one hold cause of the
lowest-numbered HOLD entry (R170 to R172). -/
def observe (s : State) (subject : WatchSubject) (ch : Change) : State :=
  let fired := firedEntries s subject ch
  let pauses := (firedWith s subject ch .pause).map (watchReference s)
  let holds := firedWith s subject ch .hold
  let s1 := s.setWatches (Table.map (Watch.mark subject ch (!fired.isEmpty)) s.watches)
  let s2 := fired.foldl sendWatch s1
  let s3 := s2.setClock (pauseClock s2.clock subject ch pauses)
  match holds with
  | [] => s3
  | i :: _ => handCause s3 (.watch i)

/-- A jump of sky time handed to the watch unit (R11, R165). -/
def skyJump (s : State) (old new : Int) : State := observe s .skyTime (.jump old new)

/-- The change of position of an axis handed to the watch unit: on P for a bounded axis, on the wrapped angle for a
rotary one (R105, R166). -/
def observeAxis (s : State) (a : Axis) (old new : Int) : State :=
  observe s (.axis a) (if bounded a then .step old new else .around (wrap old) (new - old))

/-! ### Shared axis operations -/

/-- D for a position and gear (R89). -/
def drivePosition (p gear : Int) : Int := p * gear / turn

/-- The window of a rotary axis with W > 0, or the travel of a bounded axis; none for a rotary axis without a wrap
limit (R92, R102). -/
def travelRange (a : Axis) (q : AxisParams) : Option (Int × Int) :=
  if bounded a then some (q.travelMin, q.travelMax)
  else if 0 < q.wrapLimit then some (-(q.wrapLimit * turn), q.wrapLimit * turn)
  else none

/-- A position clamped to the range an axis may travel (R102, R110, R111, R157). -/
def clampTravel (a : Axis) (q : AxisParams) (x : Int) : Int :=
  match travelRange a q with
  | some (lo, hi) => clamp x lo hi
  | none => x

/-- An axis fault that is a hold cause: AXIS FAULT to every link, then the cause (R138, R139). -/
def reportFault (s : State) (a : Axis) (kind : HoldFaultKind) : State :=
  handCause (s.send (.axisFault a (match kind with | .trip => .trip | .endSwitch => .endSwitch))) (.axisFault a kind)

/-! ### The effect of an end switch (R139), shared by END_SWITCH and DEVICE_RESET -/

/-- The axis channel after an end switch: FAULT with cause END SWITCH, whatever it was (R139). -/
def switchFault (side : Side) (c : AxisChannel) : AxisChannel :=
  { c with
    mode := .fault .endSwitch
    referenced := false
    lagging := false
    v := 0
    burst := 0
    driveEnabled := false
    switchLow := c.switchLow || decide (side = .low)
    switchHigh := c.switchHigh || decide (side = .high) }

/-- An end switch of a bounded axis becomes active; a rotary axis has none (R139). -/
def switchActive (s : State) (a : Axis) (side : Side) : State :=
  if bounded a then reportFault (s.setAxis a (switchFault side (s.axis a))) a .endSwitch else s

end Sys2Proof.Machine
end

