-- ==== Sys2Proof/Machine/Geometry.lean ====
section
/-! DEFINITION. Star ball geometry: the three targets (R20 to R24) and the requests SET SITE and COUPLE (R25 to R30). -/

namespace Sys2Proof.Machine

/-- Sky milliseconds, floor(T / 256) (00_scope, R20). -/
def skyMs (t : Int) : Int := t / 256

/-- The coupled DIURNAL target (R21). -/
def diurnalCoupled (t longitude : Int) : Int :=
  wrap (gst0 + longitude + skyMs t % siderealDay * turn / siderealDay)

/-- The DIURNAL target: coupled, or the frozen angle (R21, R22). -/
def diurnalTarget (c : Clock) (b : StarBall) : Int :=
  if b.coupled then diurnalCoupled c.t b.longitude else b.frozen

/-- The LATITUDE target (R23). -/
def latitudeTarget (b : StarBall) : Int := b.latitude

/-- The PRECESSION target (R24). -/
def precessionTarget (c : Clock) : Int := skyMs c.t % precessionPeriod * turn / precessionPeriod

/-- SET_SITE: latitude clamped to a quarter turn, longitude mod 2^32 (R25, R26). -/
def execSetSite (l : Link) (p : List Byte) (s : State) : Result :=
  take l ⟨kSetSite, p⟩ (fun s =>
    match readSite p with
    | none => answer s .malformed
    | some (lat, lon) =>
      needGrant s l
        (let taken := clamp lat (-quarterTurn) quarterTurn
         answer (s.setBall { s.ball with latitude := taken, longitude := lon }) (clampedIf (decide (taken ≠ lat))))) s

/-- Coupling set ON or OFF; going OFF writes the coupled target of this instant to the frozen angle (R28, R29). -/
def couple (s : State) (on : Bool) : State :=
  if on then s.setBall { s.ball with coupled := true }
  else if s.ball.coupled then
    s.setBall { s.ball with coupled := false, frozen := diurnalCoupled s.clock.t s.ball.longitude }
  else s

/-- A COUPLE request by its payload (R25, R28, R29). -/
def handleCouple (l : Link) (p : List Byte) (s : State) : Handled :=
  match ofLength 1 p (readOnOff p) with
  | none => answer s .malformed
  | some on => needGrant s l (answer (couple s on) .ok)

/-- COUPLE_OFF: a COUPLE frame other than COUPLE ON, which is the row COUPLE_ON's (R25, R28; log 14). -/
def execCoupleOff (l : Link) (p : List Byte) (s : State) : Result :=
  if p = [1] then .next s else take l ⟨kCouple, p⟩ (handleCouple l p) s

/-- COUPLE_ON: a COUPLE frame other than COUPLE OFF, which is the row COUPLE_OFF's (R25, R29; log 14). -/
def execCoupleOn (l : Link) (p : List Byte) (s : State) : Result :=
  if p = [0] then .next s else take l ⟨kCouple, p⟩ (handleCouple l p) s

end Sys2Proof.Machine
end

