-- ==== Sys2Proof/Machine/Ephemeris.lean ====
section
/-! DEFINITION. The ephemeris evaluator: slot conditions (R37), candidates and selection (R38 to R40), the arithmetic
(R43 to R45), track records and SOURCE CHANGE (R41, R50), MOON PHASE (R48) and READ TRACK (R51). -/

namespace Sys2Proof.Machine

/-- A bank is busy while the store works in it (R71). -/
def bankBusy (op : StoreOp) (bankB : Bool) : Bool :=
  match op with
  | .erasing n _ => inBankB n.val == bankB
  | .writing n _ => inBankB (slotSector n.val) == bankB
  | .writingInSuspend n _ _ _ => inBankB (slotSector n.val) == bankB
  | .saving _ _ => bankB
  | .idle | .eraseSuspended _ _ | .checking _ _ _ _ => false

/-- The sector held as suspended (R70). -/
def suspendedSector (op : StoreOp) : Option SectorNo :=
  match op with
  | .eraseSuspended n _ => some n
  | .writingInSuspend _ _ n _ => some n
  | _ => none

/-- A slot is absent when it lies in a suspended sector (R37). -/
def slotAbsent (op : StoreOp) (n : Nat) : Bool :=
  match suspendedSector op with
  | some sec => slotSector n == sec.val
  | none => false

/-- A slot is unreadable when its bank is busy and it is not absent (R37). -/
def slotUnreadable (op : StoreOp) (n : Nat) : Bool := !slotAbsent op n && bankBusy op (inBankB (slotSector n))

/-- A slot is readable when it is neither (R37). -/
def slotReadable (op : StoreOp) (n : Nat) : Bool := !slotAbsent op n && !slotUnreadable op n

/-- An enabled patch stands in for a slot index (R38). -/
def stoodIn (patches : Vector PatchEntry 8) (n : Nat) : Bool :=
  patches.toList.any fun e =>
    match e with
    | .enabled m _ => m.val == n
    | _ => false

/-- A segment covers a sky millisecond: its start belongs to it, its end does not (R36). -/
def covers (g : Segment) (tms : Int) : Bool :=
  decide (1000 * g.startS ≤ tms) && decide (tms < 1000 * (g.startS + g.spanS))

/-- A candidate: its rank, its segment, and whether it is a patch (R39). -/
structure Candidate where
  rank : Nat
  segment : Segment
  patched : Bool
  deriving DecidableEq, Repr

/-- The candidates that the enabled patch entries give a track (R39). -/
def patchCandidates (patches : Vector PatchEntry 8) (k : Track) : List Candidate :=
  patches.toList.filterMap fun e =>
    match e with
    | .enabled m g => if g.track = k then some ⟨m.val, g, true⟩ else none
    | _ => none

/-- The candidates that the store gives a track: FILLED, readable slots of the track that no patch stands in for
(R39). -/
def slotCandidates (s : State) (k : Track) : List Candidate :=
  s.store.slots.filterMap fun x =>
    match x.2 with
    | .filled g =>
      if g.track = k ∧ slotReadable s.store.op x.1 ∧ ¬ stoodIn s.patches x.1 then some ⟨x.1, g, false⟩ else none
    | _ => none

/-- The slots of a bank (R37). -/
def bankSlots (bankB : Bool) : List Nat := if bankB then List.range' 1024 992 else List.range' 0 1024

/-- Whether an unreadable slot exists that no enabled patch stands in for (R39). -/
def unreadableNoted (s : State) : Bool :=
  [false, true].any fun bank =>
    bankBusy s.store.op bank &&
      (bankSlots bank).any fun n => slotUnreadable s.store.op n && !stoodIn s.patches n

/-- The candidate of lowest rank (R40). -/
def lowest : List Candidate → Option Candidate
  | [] => none
  | x :: rest =>
    match lowest rest with
    | none => some x
    | some y => if y.rank < x.rank then some y else some x

/-- The winner of a track at a sky millisecond (R40). -/
def winner (s : State) (k : Track) (tms : Int) : Option Candidate :=
  lowest ((patchCandidates s.patches k ++ slotCandidates s k).filter fun c => covers c.segment tms)

/-- The position within the segment (R43). -/
def segmentPosition (g : Segment) (tms : Int) : Int :=
  (tms - 1000 * g.startS) * fractionUnit / (1000 * g.spanS)

/-- The rounding step rnd (R44). -/
def rnd (x : Int) : Int := (x + 8388608) / fractionUnit

/-- c0 as it enters: signed on a latitude track (R34, R44). -/
def startValue (g : Segment) : Int :=
  if latitudeTrack g.track ∧ 2147483648 ≤ g.c0 then g.c0 - turn else g.c0

/-- The cubic by Horner's scheme in three rounded stages (R44). -/
def horner (g : Segment) (u : Int) : Int :=
  let a2 := g.c2 + rnd (g.c3 * u)
  let a1 := g.c1 + rnd (a2 * u)
  startValue g + rnd (a1 * u)

/-- The finish: wrapped on a longitude track, saturated on a latitude track (R45). -/
def finish (k : Track) (v : Int) : Int := if latitudeTrack k then saturate32 v else wrap v

/-- The value of a segment at a sky millisecond (R43 to R45). -/
def segmentValue (g : Segment) (tms : Int) : Int := finish g.track (horner g (segmentPosition g tms))

/-- The slot number of a rank; ranks are slot numbers (R39). -/
def slotOfRank (n : Nat) : SlotNo := Fin.ofNat 2016 n

/-- The record that an evaluation leaves (R40, R41). -/
def evaluation (s : State) (k : Track) (tms : Int) : TrackRecord :=
  match winner s k tms with
  | some c =>
    { last := segmentValue c.segment tms
      source := if c.patched then .patched (slotOfRank c.rank) else .covered (slotOfRank c.rank) }
  | none =>
    { last := (s.eph.tracks.get k).last
      source := if unreadableNoted s then .stale else .uncovered }

/-- SOURCE CHANGE where the new source state differs from the old (R50). -/
def sendSourceChange (s : State) (k : Track) (old new : SourceState) : State :=
  if old = new then s else s.send (.sourceChange k new)

/-- One evaluation of a track at the present T: its record written, SOURCE CHANGE sent (R40, R41, R50). -/
def evaluateTrack (s : State) (k : Track) : State :=
  let rec_ := evaluation s k (skyMs s.clock.t)
  sendSourceChange (s.setEph { s.eph with tracks := s.eph.tracks.set k.val rec_ k.isLt }) k
    (Source.state (s.eph.tracks.get k).source) (Source.state rec_.source)

/-- Whether a record's source is COVERED or PATCHED. -/
def Source.found : Source → Bool
  | .covered _ => true
  | .patched _ => true
  | .stale => false
  | .uncovered => false

/-- The update of MOON PHASE: tracks 1 and then 0, and the phase value when both are found (R48). -/
def evaluatePhase (s : State) : State :=
  let s1 := evaluateTrack (evaluateTrack s 1) 0
  let moon := s1.eph.tracks.get 1
  let sun := s1.eph.tracks.get 0
  if Source.found moon.source && Source.found sun.source then
    s1.setEph { s1.eph with phase := wrap (moon.last - sun.last) }
  else s1

/-- READ_TRACK: the record as it stands (R51). -/
def execReadTrack (l : Link) (p : List Byte) (s : State) : Result :=
  take l ⟨kReadTrack, p⟩ (fun s =>
    match readTrackNo p with
    | none => answer s .malformed
    | some k => answerWith s .ok (.track k (s.eph.tracks.get k))) s

end Sys2Proof.Machine
end

