-- ==== Sys2Proof/Machine/AxisMotion.lean ====
section
/-! DEFINITION. The profile update of an axis channel in every mode (R95 to R105) with the homing phases (R120 to R127),
and the index edge (R121, R124, R125, R128). -/

namespace Sys2Proof.Machine

/-! ### Target and error -/

/-- The role target of an axis in TRACK, with the evaluation it makes (R21 to R24, R46, R48, R96). -/
def roleTarget (s : State) (a : Axis) : State × Int :=
  if a = 0 then (s, diurnalTarget s.clock s.ball)
  else if a = 1 then (s, latitudeTarget s.ball)
  else if a = 2 then (s, precessionTarget s.clock)
  else
    match axisTrack a with
    | some k => let s1 := evaluateTrack s k; (s1, (s1.eph.tracks.get k).last)
    | none => let s1 := evaluatePhase s; (s1, s1.eph.phase)

/-- The target as the channel uses it: clamped to the travel of a bounded axis (R96). -/
def channelTarget (a : Axis) (q : AxisParams) (x : Int) : Int :=
  if bounded a then clamp x q.travelMin q.travelMax else x

/-- The shorter way round to a wrapped target (R97). -/
def shortError (x p : Int) : Int := (x - p % turn + halfTurn) % turn - halfTurn

/-- The error of a tracking rotary axis, the long way round where the short one leaves the window (R98). -/
def windowError (w p e : Int) : Int :=
  if 0 < w ∧ (p + e < -(w * turn) ∨ w * turn < p + e) then
    (if e < 0 then e + turn else if 0 < e then e - turn else e)
  else e

/-- The error of an axis in TRACK (R97, R98). -/
def trackError (a : Axis) (c : AxisChannel) (x : Int) : Int :=
  if bounded a then channelTarget a c.params x - c.p
  else windowError c.params.wrapLimit c.p (shortError x c.p)

/-! ### Velocity and motion -/

/-- The desired velocity from an error (R99). -/
def desiredVelocity (amax vmax e : Int) : Int := sgn e * min vmax (floorSqrt (2 * amax * mag e))

/-- The new velocity (R100). -/
def newVelocity (c : AxisChannel) (vd : Int) : Int := c.v + clamp (vd - c.v) (-c.params.amax) c.params.amax

/-- Whether the update arrives (R101). -/
def arrives (e v' : Int) : Bool :=
  decide (e = 0) || (decide (v' ≠ 0) && decide (sgn v' = sgn e) && decide (mag e ≤ mag v'))

/-- Arrival or step with an error (R101). -/
def moveToward (c : AxisChannel) (e vd : Int) : AxisChannel :=
  let v' := newVelocity c vd
  if arrives e v' then { c with p := c.p + e, v := e } else { c with p := c.p + v', v := v' }

/-- The step of STOPPING and HOMING, which have no error (R101, R120). -/
def moveFree (c : AxisChannel) (vd : Int) : AxisChannel :=
  let v' := newVelocity c vd
  { c with p := c.p + v', v := v' }

/-- The side on which a REFERENCED axis stands beyond its travel (R102). -/
def beyondTravel (a : Axis) (c : AxisChannel) : Option Side :=
  if c.referenced then
    match travelRange a c.params with
    | some (lo, hi) => if c.p < lo then some .low else if hi < c.p then some .high else none
    | none => none
  else none

/-- The clamp of R102: the position at the limit reached and v 0, with SOFT LIMIT. -/
def softClamp (s : State) (a : Axis) (c : AxisChannel) : State × AxisChannel :=
  match beyondTravel a c with
  | some side => (s.send (.softLimit a side), { c with p := clampTravel a c.params c.p, v := 0 })
  | none => (s, c)

/-- The lag test of a tracking axis: LAGGING set and sent once, or cleared (R103). -/
def lagTest (s : State) (a : Axis) (c : AxisChannel) (e : Int) : State × AxisChannel :=
  if c.params.tolerance < mag e then
    (if c.lagging then s else s.send (.lagging a), { c with lagging := true })
  else (s, { c with lagging := false })

/-- D recomputed and the difference sent to the driver (R104). -/
def driveOut (c : AxisChannel) : AxisChannel :=
  let d := drivePosition c.p c.params.gear
  { c with d := d, burst := d - c.d }

/-- The mode change of MOVE and STOPPING at the end of an update (R105). -/
def restMode (c : AxisChannel) : AxisChannel :=
  match c.mode with
  | .move x => if c.p = x ∧ c.v = 0 then { c with mode := .parked } else c
  | .stopping .parked => if c.v = 0 then { c with mode := .parked } else c
  | .stopping .held => if c.v = 0 then { c with mode := .held } else c
  | _ => c

/-! ### Homing -/

/-- The sign of a direction (R120). -/
def Direction.sign : Direction → Int
  | .positive => 1
  | .negative => -1

/-- The creep speed (R120, R124). -/
def creepSpeed (q : AxisParams) : Int := max 1 (q.homeSpeed / 8)

/-- The desired velocity of a homing phase, before the limit (R120). -/
def phaseVelocity (q : AxisParams) : HomingPhase → Int
  | .seek => Direction.sign q.homeDirection * q.homeSpeed
  | .backoff => 0
  | .creep => -(Direction.sign q.homeDirection) * creepSpeed q
  | .settle => 0

/-- Whether a seek distance passes the seek limit (R122). -/
def seekPassed (a : Axis) (q : AxisParams) (distance : Int) : Bool :=
  if bounded a then decide (5 * (q.travelMax - q.travelMin) < 4 * distance) else decide (rotarySeekLimit < distance)

/-- Whether a position is in range for the end of a homing (R126). -/
def inRange (a : Axis) (c : AxisChannel) : Bool :=
  match travelRange a c.params with
  | some (lo, hi) => decide (lo ≤ c.p) && decide (c.p ≤ hi)
  | none => true

/-- A homing fault: FAULT with its cause and AXIS FAULT, no hold cause (R127). -/
def homingFault (s : State) (a : Axis) (c : AxisChannel) (cause : FaultCause) : State × AxisChannel :=
  (s.send (.axisFault a cause), { c with mode := .fault cause, referenced := false, v := 0, driveEnabled := false })

/-- The homing record with the distance of an update added to that of its phase (R120). -/
def HomingRecord.travelled (h : HomingRecord) (moved : Int) : HomingRecord :=
  match h.phase with
  | .seek => { h with seekDistance := h.seekDistance + moved }
  | .creep => { h with creepDistance := h.creepDistance + moved }
  | .backoff => h
  | .settle => h

/-- The end of a homing whose axis came to rest in SETTLE (R126). -/
def settled (s : State) (a : Axis) (c : AxisChannel) : State × AxisChannel :=
  if inRange a c then (s.send (.referenced a), { c with mode := .parked, referenced := true })
  else homingFault s a c .homeRange

/-- The end of an update in HOMING: the distance travelled, then the phase's timeout, change or end (R120, R122, R123,
R126). With an effective vmax of 0 the axis stays in its phase (R120; log 27). `moved` is the magnitude of the
position's change. -/
def homingEnd (s : State) (a : Axis) (c : AxisChannel) (h : HomingRecord) (moved vmax : Int) : State × AxisChannel :=
  let h1 := h.travelled moved
  let stays := (s, { c with mode := .homing h1 })
  if vmax = 0 then stays
  else
    match h.phase with
    | .seek => if seekPassed a c.params h1.seekDistance then homingFault s a c .homeTimeout else stays
    | .backoff =>
      if c.v = 0 then (s, { c with mode := .homing { h with phase := .creep, creepDistance := 0 } }) else stays
    | .creep => stays
    | .settle => if c.v = 0 then settled s a c else stays

/-! ### The update -/

/-- The stages of an update in TRACK up to the drive, with the events they send (R96 to R104). -/
def trackStages (s : State) (a : Axis) : State × AxisChannel :=
  let x := roleTarget s a
  let c := x.1.axis a
  let e := trackError a c x.2
  let vmax := effectiveVmax x.1.thermal.warning c.params
  let moved := moveToward c e (desiredVelocity c.params.amax vmax e)
  let y := softClamp x.1 a moved
  let z := lagTest y.1 a y.2 e
  (z.1, driveOut z.2)

/-- The stages of an update toward a destination of the axis itself: MOVE, PARKED, HELD (R96 to R102, R104). -/
def ownStages (s : State) (a : Axis) (destination : Int) : State × AxisChannel :=
  let c := s.axis a
  let e := destination - c.p
  let moved := moveToward c e (desiredVelocity c.params.amax (effectiveVmax s.thermal.warning c.params) e)
  let y := softClamp s a moved
  (y.1, driveOut y.2)

/-- The stages of an update in STOPPING (R96, R100 to R104). -/
def stoppingStages (s : State) (a : Axis) : State × AxisChannel :=
  let y := softClamp s a (moveFree (s.axis a) 0)
  (y.1, driveOut y.2)

/-- The stages of an update in HOMING (R96, R120). -/
def homingStages (s : State) (a : Axis) (h : HomingRecord) : State × AxisChannel :=
  let c := s.axis a
  let vmax := effectiveVmax s.thermal.warning c.params
  let moved := driveOut (moveFree c (clamp (phaseVelocity c.params h.phase) (-vmax) vmax))
  homingEnd s a moved h (mag (moved.p - c.p)) vmax

/-- The stages of one update by mode, with the mode change that ends it; none in RECOVERING and FAULT, whose update
makes no motion and sends no steps (R95, R105). -/
def updateStages (s : State) (a : Axis) : Option (State × AxisChannel) :=
  match (s.axis a).mode with
  | .track => some (trackStages s a)
  | .move x => let y := ownStages s a x; some (y.1, restMode y.2)
  | .parked => some (ownStages s a (s.axis a).p)
  | .held => some (ownStages s a (s.axis a).p)
  | .stopping _ => let y := stoppingStages s a; some (y.1, restMode y.2)
  | .homing h => some (homingStages s a h)
  | .recovering _ _ => none
  | .fault _ => none

/-- PROFILE_UPDATE: the stages, then the change of position handed to the watch unit (R95, R105). -/
def execProfileUpdate (a : Axis) (s : State) : Result :=
  match updateStages s a with
  | some y => .next (observeAxis (y.1.setAxis a y.2) a (s.axis a).p y.2.p)
  | none => .next (observeAxis (s.setAxis a { s.axis a with burst := 0 }) a (s.axis a).p (s.axis a).p)

/-- An index edge on an axis channel: it ends SEEK, and after the blanking of CREEP it redefines the position; elsewhere
it is ignored (R121, R124, R125, R128). -/
def indexEdge (c : AxisChannel) : AxisChannel :=
  match c.mode with
  | .homing h =>
    match h.phase with
    | .seek => { c with mode := .homing { h with phase := .backoff } }
    | .creep =>
      if blankingDistance ≤ h.creepDistance then
        { c with
          mode := .homing { h with phase := .settle }
          p := c.params.indexOffset
          d := drivePosition c.params.indexOffset c.params.gear }
      else c
    | .backoff => c
    | .settle => c
  | _ => c

/-- INDEX_EDGE (R128). -/
def execIndexEdge (a : Axis) (s : State) : Result := .next (s.setAxis a (indexEdge (s.axis a)))

end Sys2Proof.Machine
end

