-- ==== Sys2Proof/Machine/AxisRequests.lean ====
section
/-! DEFINITION. The requests to the axes: TRACK (R108, R109), MOVE (R110, R111), PARK (R112), SET AXIS PARAM (R113 to
R115), READ AXIS (R116) and HOME (R119). -/

namespace Sys2Proof.Machine

/-- The same change made on every axis of a set. -/
def State.changeSet (s : State) (set : List Axis) (f : AxisChannel → AxisChannel) : State :=
  s.setAxes (Table.build fun a => if a ∈ set then f (s.axis a) else s.axis a)

/-- Why an axis cannot be put into TRACK or MOVE: FAULTED, UNREFERENCED or BUSY, in that order (R108, R110). -/
def trackRefusal (c : AxisChannel) : Option Status :=
  match c.mode with
  | .fault _ => some .faulted
  | .parked | .track | .move _ | .stopping _ => if c.referenced then none else some .unreferenced
  | .homing _ | .held | .recovering _ _ => if c.referenced then some .busy else some .unreferenced

/-- The first axis of a set that fails a check, with its status (R108, R119). -/
def firstRefusal (s : State) (check : AxisChannel → Option Status) : List Axis → Option (Axis × Status)
  | [] => none
  | a :: rest =>
    match check (s.axis a) with
    | some st => some (a, st)
    | none => firstRefusal s check rest

/-- An axis put into TRACK, keeping v; one already in TRACK is left as it is (R109). -/
def enterTrack (c : AxisChannel) : AxisChannel :=
  match c.mode with
  | .track => c
  | _ => { c with mode := .track, lagging := false }

/-- TRACK (R107 to R109). -/
def execTrack (l : Link) (p : List Byte) (s : State) : Result :=
  take l ⟨kTrack, p⟩ (fun s =>
    match readAxisSet p with
    | none => answer s .malformed
    | some set =>
      needGrant s l (needNormal s
        (match firstRefusal s trackRefusal set with
          | some (a, st) => answerWith s st (.axisNumber a)
          | none => answer (s.changeSet set enterTrack) .ok))) s

/-- The unwrapped destination of a MOVE before the clamp (R110, R111). -/
def moveDestination (a : Axis) (pos value : Int) (dir : MoveDirection) : Int :=
  if bounded a then value
  else
    let r := wrap (value - pos % turn)
    match dir with
    | .positive => pos + r
    | .negative => if 0 < r then pos + r - turn else pos
    | .shortest => if r < halfTurn then pos + r else pos + r - turn

/-- An axis put into MOVE, keeping v (R111). -/
def enterMove (destination : Int) (c : AxisChannel) : AxisChannel :=
  { c with mode := .move destination, lagging := false }

/-- MOVE (R107, R110, R111). -/
def execMove (l : Link) (p : List Byte) (s : State) : Result :=
  take l ⟨kMove, p⟩ (fun s =>
    match readMove p with
    | none => answer s .malformed
    | some (a, value, dir) =>
      needGrant s l (needNormal s
        (match trackRefusal (s.axis a) with
          | some st => answer s st
          | none =>
            let x := moveDestination a (s.axis a).p value dir
            let y := clampTravel a (s.axis a).params x
            answer (s.setAxis a (enterMove y (s.axis a))) (clampedIf (decide (y ≠ x)))))) s

/-- An axis parked by its mode (R112). -/
def parkAxis (c : AxisChannel) : AxisChannel :=
  match c.mode with
  | .track | .move _ | .homing _ => { c with mode := .stopping .parked, lagging := false }
  | .stopping _ => { c with mode := .stopping .parked }
  | .recovering _ left => { c with mode := .recovering .parked left }
  | .parked | .held | .fault _ => c

/-- PARK (R107, R112). -/
def execPark (l : Link) (p : List Byte) (s : State) : Result :=
  take l ⟨kPark, p⟩ (fun s =>
    match readAxisSet p with
    | none => answer s .malformed
    | some set => needGrant s l (needNormal s (answer (s.changeSet set parkAxis) .ok))) s

/-- A parameter value brought into its range (R92, R113). -/
def takeParam (a : Axis) (q : AxisParams) : ParamValue → ParamValue
  | .gear x => .gear (clamp x 1 4194304)
  | .vmax x => .vmax (clamp x 1 67108864)
  | .amax x => .amax (clamp x 1 1048576)
  | .homeSpeed x => .homeSpeed (clamp x 1 q.vmax)
  | .homeDirection x => .homeDirection x
  | .indexOffset x =>
    .indexOffset (if bounded a then clamp x (-quarterTurn) quarterTurn else clamp x (-2147483648) 2147483647)
  | .travelMin x => .travelMin (clamp x (-quarterTurn) quarterTurn)
  | .travelMax x => .travelMax (clamp x (-quarterTurn) quarterTurn)
  | .wrapLimit x => .wrapLimit (clamp x 0 8)
  | .tolerance x => .tolerance (clamp x 0 2147483647)
  | .tripFilter x => .tripFilter x
  | .recovery x => .recovery x

/-- A parameter written; a vmax below the home speed lowers the home speed with it (R115). -/
def writeParam (q : AxisParams) : ParamValue → AxisParams
  | .gear x => { q with gear := x }
  | .vmax x => { q with vmax := x, homeSpeed := min q.homeSpeed x }
  | .amax x => { q with amax := x }
  | .homeSpeed x => { q with homeSpeed := x }
  | .homeDirection x => { q with homeDirection := x }
  | .indexOffset x => { q with indexOffset := x }
  | .travelMin x => { q with travelMin := x }
  | .travelMax x => { q with travelMax := x }
  | .wrapLimit x => { q with wrapLimit := x }
  | .tolerance x => { q with tolerance := x }
  | .tripFilter x => { q with tripFilter := x }
  | .recovery x => { q with recovery := x }

/-- The parameters whose change clears REFERENCED (R115, R130). -/
def tiesReference : ParamValue → Bool
  | .gear _ | .indexOffset _ | .travelMin _ | .travelMax _ | .wrapLimit _ => true
  | .vmax _ | .amax _ | .homeSpeed _ | .homeDirection _ | .tolerance _ | .tripFilter _ | .recovery _ => false

/-- The axis channel after a parameter change: REFERENCED cleared where it must be, D from the new gear with no steps
sent; an equal value changes nothing (R115). -/
def changeParam (c : AxisChannel) (x : ParamValue) : AxisChannel :=
  let q := writeParam c.params x
  if q = c.params then c
  else
    { c with
      params := q
      referenced := c.referenced && !tiesReference x
      d := if q.gear = c.params.gear then c.d else drivePosition c.p q.gear }

/-- Whether SET AXIS PARAM may act on an axis: PARKED or in FAULT (R113). -/
def paramAllowed (c : AxisChannel) : Bool :=
  match c.mode with
  | .parked => true
  | .fault _ => true
  | _ => false

/-- SET_AXIS_PARAM: NOT_PARKED, the clamp, INCONSISTENT, else written (R107, R113 to R115). -/
def execSetAxisParam (l : Link) (p : List Byte) (s : State) : Result :=
  take l ⟨kSetAxisParam, p⟩ (fun s =>
    match readAxisParam p with
    | none => answer s .malformed
    | some (a, x) =>
      needGrant s l (needNormal s
        (let c := s.axis a
         let y := takeParam a c.params x
         if !paramAllowed c then answer s .notParked
         else if !consistent a (writeParam c.params y) then answer s .inconsistent
         else answer (s.setAxis a (changeParam c y)) (clampedIf (decide (y ≠ x)))))) s

/-- The record of an axis as READ AXIS carries it (R89, R116). -/
def readingOf (warning : Bool) (c : AxisChannel) : AxisReading where
  mode := c.mode.name
  referenced := c.referenced
  lagging := c.lagging
  p := c.p
  v := c.v
  d := c.d
  destination := match c.mode with | .move x => some x | _ => none
  next := match c.mode with | .stopping n => some n | _ => none
  cause := match c.mode with | .fault k => some k | _ => none
  phase := match c.mode with | .homing h => some h.phase | _ => none
  effectiveVmax := effectiveVmax warning c.params
  params := c.params

/-- READ_AXIS (R116). -/
def execReadAxis (l : Link) (p : List Byte) (s : State) : Result :=
  take l ⟨kReadAxis, p⟩ (fun s =>
    match readAxisNo p with
    | none => answer s .malformed
    | some a => answerWith s .ok (.axis a (readingOf s.thermal.warning (s.axis a)))) s

/-- HOME refuses an axis that is not PARKED (R119). -/
def homeRefusal (c : AxisChannel) : Option Status :=
  match c.mode with
  | .parked => none
  | _ => some .notParked

/-- A homing started: REFERENCED clear, phase SEEK, both distances 0 (R119). -/
def startHoming (c : AxisChannel) : AxisChannel :=
  { c with mode := .homing { phase := .seek, seekDistance := 0, creepDistance := 0 }, referenced := false }

/-- HOME (R119). -/
def execHome (l : Link) (p : List Byte) (s : State) : Result :=
  take l ⟨kHome, p⟩ (fun s =>
    match readAxisSet p with
    | none => answer s .malformed
    | some set =>
      needGrant s l (needNormal s
        (match firstRefusal s homeRefusal set with
          | some (a, st) => answerWith s st (.axisNumber a)
          | none => answer (s.changeSet set startHoming) .ok))) s

end Sys2Proof.Machine
end

