-- ==== Sys2Proof/Machine/Protection.lean ====
section
/-! DEFINITION. Drive protection: trips and their recovery (R133 to R138), end switches (R139), CLEAR FAULT (R141), the
thermal monitor (R142 to R144). -/

namespace Sys2Proof.Machine

/-- The mode an axis returns to after a retried trip; STOPPING is remembered as its next mode (R134). -/
def priorOf : Mode → PriorMode
  | .parked => .parked
  | .track => .track
  | .move x => .move x
  | .homing h => .homing h
  | .stopping .parked => .parked
  | .stopping .held => .held
  | .held => .held
  | .recovering prior _ => prior
  | .fault _ => .parked

/-- The mode a remembered prior mode is taken as (R136). -/
def modeOfPrior : PriorMode → Mode
  | .parked => .parked
  | .track => .track
  | .move x => .move x
  | .homing h => .homing h
  | .held => .held

/-- A trip counted: the window starts at the first of a count, and the count rises, to 3 at most (R134, R131). -/
def countTrip (c : AxisChannel) : AxisChannel :=
  { c with
    tripWindow := if c.tripCount = 0 then some tripWindowTime else c.tripWindow
    tripCount := min (c.tripCount + 1) 3 }

/-- The axis channel after a trip handled as MANUAL (R138). -/
def tripFault (c : AxisChannel) : AxisChannel :=
  { c with mode := .fault .trip, referenced := false, lagging := false, v := 0, driveEnabled := false }

/-- A trip handled as MANUAL: FAULT, AXIS FAULT to every link, and the hold cause (R138). -/
def manualTrip (s : State) (a : Axis) : State := reportFault (s.setAxis a (tripFault (s.axis a))) a .trip

/-- The axis channel waiting for its retry (R134, R135). -/
def tripWait (prior : PriorMode) (c : AxisChannel) : AxisChannel :=
  { c with mode := .recovering prior retryTime, lagging := false, v := 0, driveEnabled := false }

/-- A counted trip: RECOVERING at the first and second of a count, MANUAL at the third (R134, R135). -/
def retryTrip (s : State) (a : Axis) (prior : PriorMode) : State :=
  let c := countTrip (s.axis a)
  if c.tripCount < 3 then s.setAxis a (tripWait prior c) else manualTrip (s.setAxis a c) a

/-- A drive disabled at once, v 0, and the burst not yet delivered dropped (R133). -/
def disableDrive (c : AxisChannel) : AxisChannel := { c with driveEnabled := false, v := 0, burst := 0 }

/-- A qualified trip by the axis's mode and recovery mode (R133 to R135, R138). -/
def tripped (s : State) (a : Axis) : State :=
  match (s.axis a).mode with
  | .fault _ => s
  | .recovering prior _ => retryTrip s a prior
  | m =>
    let s1 := s.setAxis a (disableDrive (s.axis a))
    match (s.axis a).params.recovery with
    | .retry => retryTrip s1 a (priorOf m)
    | .manual => manualTrip s1 a

/-! ### The trip filter (R132) -/

/-- The trip line as last seen (log 4). -/
def State.setTripLine (s : State) (a : Axis) (line : TripLine) : State := s.setAxis a { s.axis a with tripLine := line }

/-- The filter width that an activation is held to: the parameter as it stands when the line becomes active, and that
same width while the line stays active. An activation that has qualified, or that was never seen to begin, is held to
none (R132). DESIGN CHOICE (log 24), unsafe: a command that tells of a new activation latches the width as it stands at that
command, also where its line has been active for `us` microseconds by then. -/
def latchedWidth (c : AxisChannel) (anew : Bool) : Option TripFilter :=
  if anew then some c.params.tripFilter
  else
    match c.tripLine with
    | .filtering width => some width
    | .inactive => none
    | .qualified => none

/-- A trip line seen active: once the activation has lasted the filter width, the line has qualified and the trip is
handled; before that only the width is latched, and after it nothing happens (R132, R133). -/
def tripSeen (s : State) (x : TripSeen) : State :=
  match latchedWidth (s.axis x.axis) x.anew with
  | some width =>
    if TripFilter.us width ≤ x.us then tripped (s.setTripLine x.axis .qualified) x.axis
    else s.setTripLine x.axis (.filtering width)
  | none => s

/-- QUALIFIED_TRIP (R132, R133). -/
def execQualifiedTrip (x : TripSeen) (s : State) : Result := .next (tripSeen s x)

/-- The trip line after a level that the retry expiry read: a line first seen active there starts its filter at the
width as it stands (R132, R136; log 4). -/
def readTripLine (c : AxisChannel) (active : Bool) : TripLine :=
  if active then
    match c.tripLine with
    | .inactive => .filtering c.params.tripFilter
    | .filtering width => .filtering width
    | .qualified => .qualified
  else .inactive

/-- END_SWITCH (R139); a rotary axis has no end switch (log 17). -/
def execEndSwitch (a : Axis) (side : Side) (s : State) : Result := .next (switchActive s a side)

/-- RETRY_EXPIRY: with the line inactive the axis takes its remembered prior mode, with v = 0 and its drive enabled;
with the line active the expiry is a trip in RECOVERING (R135, R136). A retry timer that does not run, or that has time
left, does not expire (R140; log 1, 17). -/
def execRetryExpiry (a : Axis) (line : Bool) (s : State) : Result :=
  match (s.axis a).mode with
  | .recovering prior 0 =>
    let s1 := s.setTripLine a (readTripLine (s.axis a) line)
    if line then .next (retryTrip s1 a prior)
    else .next (s1.setAxis a { s1.axis a with mode := modeOfPrior prior, lagging := false, v := 0, driveEnabled := true })
  | _ => .next s

/-- TRIP_WINDOW_EXPIRY: the count becomes 0 and the window stops (R137). A window that is stopped, or that has time left,
does not expire (log 1, 17). -/
def execTripWindowExpiry (a : Axis) (s : State) : Result :=
  if (s.axis a).tripWindow = some 0 then .next (s.setAxis a { s.axis a with tripCount := 0, tripWindow := none })
  else .next s

/-- Whether a line that keeps a fault of the axis from being cleared is active; a rotary axis has no switches (R141). -/
def lineActive (a : Axis) (lines : Lines) : Bool := lines.trip || (bounded a && (lines.low || lines.high))

/-- The axis channel after a fault was cleared, its three lines having been read inactive (R141; log 4). -/
def clearedFault (c : AxisChannel) : AxisChannel :=
  { c with
    mode := .parked
    v := 0
    driveEnabled := true
    tripCount := 0
    tripWindow := none
    tripLine := .inactive
    switchLow := false
    switchHigh := false }

/-- CLEAR_FAULT: NO_OPERATION, then ACTIVE, else PARKED (R141). -/
def execClearFault (l : Link) (p : List Byte) (lines : Lines) (s : State) : Result :=
  take l ⟨kClearFault, p⟩ (fun s =>
    match readAxisNo p with
    | none => answer s .malformed
    | some a =>
      needGrant s l
        (if !(s.axis a).mode.isFault then answer s .noOperation
         else if lineActive a lines then answer s .active
         else answer (s.setAxis a (clearedFault (s.axis a))) .ok)) s

/-- The warning after a sample (R142). -/
def warningAfter (th : Thermal) (celsius : Int) : Bool :=
  if th.warning then !decide (celsius ≤ th.tw - 5) else decide (th.tw ≤ celsius)

/-- THERMAL at a change of the warning (R142). -/
def sendWarning (s : State) (old new : Bool) (celsius : Int) : State :=
  if old = new then s else s.send (.thermal (if new then .warningOn else .warningOff) celsius)

/-- THERMAL_SAMPLE: the warning, the hold level and the over-temperature mark (R142, R143). -/
def execThermalSample (celsius : Int) (s : State) : Result :=
  let th := s.thermal
  let hot := decide (th.tw + 15 ≤ celsius)
  let s1 := s.setThermal
    { th with warning := warningAfter th celsius, latest := some celsius, overMark := hot }
  let s2 := sendWarning s1 th.warning (warningAfter th celsius) celsius
  if hot && !th.overMark then .next (handCause (s2.send (.thermal .over celsius)) .thermal) else .next s2

/-- Too hot to resume: the latest sample at or above TW + 10 (R143). -/
def tooHot (th : Thermal) : Bool :=
  match th.latest with
  | some x => decide (th.tw + 10 ≤ x)
  | none => false

/-- SET_THERMAL_LIMIT (R144). -/
def execSetThermalLimit (l : Link) (p : List Byte) (s : State) : Result :=
  take l ⟨kSetThermalLimit, p⟩ (fun s =>
    match readTw p with
    | none => answer s .malformed
    | some x =>
      needGrant s l (answer (s.setThermal { s.thermal with tw := takeTw x }) (clampedIf (decide (takeTw x ≠ x))))) s

end Sys2Proof.Machine
end

