-- ==== Sys2Proof/Machine/DeviceReset.lean ====
section
/-! DEFINITION. Device reset: the abandoned store operation (R87), the start-up from sector 63 (R85), every block's reset
values (R2, R19, R33, R57, R69, R91, R131, R146, R164, R198) and the lines that are active at its end (R132, R139). -/

namespace Sys2Proof.Machine

/-- The slots after an abandoned operation (R87). -/
def abandonedSlots (slots : List (Nat × SlotState)) (op : StoreOp) : List (Nat × SlotState) :=
  match op with
  | .erasing sec _ => SlotMap.writeSector slots sec .spoiled
  | .eraseSuspended sec _ => SlotMap.writeSector slots sec .spoiled
  | .writing n _ => SlotMap.write slots n.val .spoiled
  | .writingInSuspend n _ sec _ => SlotMap.write (SlotMap.writeSector slots sec .spoiled) n.val .spoiled
  | .idle | .checking _ _ _ _ | .saving _ _ => slots

/-- Sector 63 after an abandoned operation (R68, R87). -/
def abandonedRecord (record : List Byte) (op : StoreOp) : List Byte :=
  match op with
  | .saving _ _ => blankRecord
  | _ => record

/-- The store after device reset: the abandoned work's traces, IDLE, every sector protected, and PARAMETERS DEFAULTED
as the check of sector 63 finds (R69, R85, R87). -/
def resetStore (x : Store) : Store where
  slots := abandonedSlots x.slots x.op
  record := abandonedRecord x.record x.op
  mask := Vector.replicate 63 true
  deferred := false
  op := .idle
  defaulted := (loadParams (abandonedRecord x.record x.op)).isNone

/-- The parameter set of a start-up: loaded, or the built-in defaults (R85). -/
def startParams (record : List Byte) : ParamSet := (loadParams record).getD ParamSet.builtIn

/-- An axis channel after device reset: P at the index offset of its loaded parameters, D from it, no steps sent
(R91, R131). -/
def resetAxis (q : AxisParams) : AxisChannel :=
  { AxisChannel.reset with
    p := q.indexOffset
    d := drivePosition q.indexOffset q.gear
    params := q }

/-- Every block at its reset value, before the lines active at the end of the reset are taken. -/
def powerOn (s : State) : State :=
  let store := resetStore s.store
  let ps := startParams store.record
  { clock := State.reset.clock
    ball := { latitude := ps.latitude, longitude := ps.longitude, coupled := true, frozen := 0 }
    eph := State.reset.eph
    patches := State.reset.patches
    axes := Table.build fun a => resetAxis (ps.axes.get a)
    store := store
    thermal := { warning := false, latest := none, overMark := false, tw := ps.tw }
    holdCtl := .normal none
    watches := State.reset.watches
    links := State.reset.links
    grant := State.reset.grant
    pending := s.pending }

/-- The trip lines active at the end of the reset become active at that moment, with the filter width then in force; one
of width 0 trips its axis (R132). -/
def takeTripLines (trips : List Axis) (s : State) : State := trips.foldl (fun s a => tripSeen s ⟨a, true, 0⟩) s

/-- The end switches active at the end of the reset become active at that moment (R139). -/
def takeSwitches (switches : List (Axis × Side)) (s : State) : State :=
  switches.foldl (fun s x => switchActive s x.1 x.2) s

/-- DEVICE_RESET: power-on or the reset line, then the trip lines and the end switches active at its end, in the order
listed (R132, R139, R198; log 5). -/
def execDeviceReset (trips : List Axis) (switches : List (Axis × Side)) (s : State) : Result :=
  .next (takeSwitches switches (takeTripLines trips (powerOn s)))

end Sys2Proof.Machine
end

