-- ==== Sys2Proof/Machine/EphemerisStore.lean ====
section
/-! DEFINITION. The ephemeris store: its requests (R69 to R86) and the ends of its works (R74, R76, R82, R84, R88). -/

namespace Sys2Proof.Machine

/-- The sector of a slot, as a sector with slots (R67). -/
def sectorOf (n : SlotNo) : SectorNo := ⟨n.val / 32, by omega⟩

/-- The store with another store state. -/
def Store.withOp (x : Store) (op : StoreOp) : Store := { x with op := op }

/-- The slot of a write in flight (R69). -/
def writtenSlot (op : StoreOp) : Option SlotNo :=
  match op with
  | .writing n _ => some n
  | .writingInSuspend n _ _ _ => some n
  | _ => none

/-- The store state that the acceptance of a write enters; none where the write is refused BUSY (R73). -/
def writeEntered (op : StoreOp) (n : SlotNo) (g : Segment) : Option StoreOp :=
  match op with
  | .idle => some (.writing n g)
  | .eraseSuspended sec left => if sectorOf n = sec then none else some (.writingInSuspend n g sec left)
  | _ => none

/-- SEGMENT_WRITE: BUSY, PROTECTED, NOT_EMPTY, else accepted (R73). -/
def execSegmentWrite (l : Link) (p : List Byte) (s : State) : Result :=
  take l ⟨kSegmentWrite, p⟩ (fun s =>
    match readSegmentWrite p with
    | none => answer s .malformed
    | some (n, g) =>
      match writeEntered s.store.op n g with
      | none => answer s .busy
      | some op =>
        if s.store.mask.get (sectorOf n) then answer s .protected_
        else if SlotMap.read s.store.slots n.val ≠ .empty then answer s .notEmpty
        else answer (s.setStore (s.store.withOp op)) .ok) s

/-- SECTOR_ERASE: PROTECTED, BUSY, else accepted (R75). -/
def execSectorErase (l : Link) (p : List Byte) (s : State) : Result :=
  take l ⟨kSectorErase, p⟩ (fun s =>
    match readSector p with
    | none => answer s .malformed
    | some n =>
      match slotSectorOf n with
      | none => answer s .protected_
      | some sec =>
        if s.store.mask.get sec then answer s .protected_
        else if s.store.op ≠ .idle then answer s .busy
        else answer (s.setStore (s.store.withOp (.erasing sec eraseTime))) .ok) s

/-- ERASE_SUSPEND (R77). -/
def execEraseSuspend (l : Link) (p : List Byte) (s : State) : Result :=
  take l ⟨kEraseSuspend, p⟩ (fun s =>
    match readEmpty p with
    | none => answer s .malformed
    | some _ =>
      match s.store.op with
      | .erasing sec left => answer (s.setStore (s.store.withOp (.eraseSuspended sec left))) .ok
      | _ => answer s .noOperation) s

/-- ERASE_RESUME (R79). -/
def execEraseResume (l : Link) (p : List Byte) (s : State) : Result :=
  take l ⟨kEraseResume, p⟩ (fun s =>
    match readEmpty p with
    | none => answer s .malformed
    | some _ =>
      match s.store.op with
      | .eraseSuspended sec left => answer (s.setStore (s.store.withOp (.erasing sec left))) .ok
      | .writingInSuspend _ _ _ _ => answer s .busy
      | _ => answer s .noOperation) s

/-- The clamped begin of a check (R81). -/
def checkFirst (first : Nat) : Nat := min first 63

/-- The clamped count of a check (R81). -/
def checkCount (first count : Nat) : Nat := min count (63 - checkFirst first)

/-- SECTOR_CHECK (R81). -/
def execSectorCheck (l : Link) (p : List Byte) (s : State) : Result :=
  take l ⟨kSectorCheck, p⟩ (fun s =>
    match readCheck p with
    | none => answer s .malformed
    | some (first, count) =>
      if s.store.op ≠ .idle then answer s .busy
      else
        answer (s.setStore (s.store.withOp (.checking (checkFirst first) (checkCount first count) 0 0xFFFF#16)))
          (clampedIf (decide (checkFirst first ≠ first) || decide (checkCount first count ≠ count)))) s

/-- The parameter set as it stands (R83). -/
def currentParams (s : State) : ParamSet where
  axes := Table.map AxisChannel.params s.axes
  latitude := s.ball.latitude
  longitude := s.ball.longitude
  tw := s.thermal.tw

/-- SAVE_PARAMETERS (R83). -/
def execSaveParameters (l : Link) (p : List Byte) (s : State) : Result :=
  take l ⟨kSaveParameters, p⟩ (fun s =>
    match readEmpty p with
    | none => answer s .malformed
    | some _ =>
      needGrant s l
        (if s.store.op ≠ .idle then answer s .busy
         else answer (s.setStore (s.store.withOp (.saving .erase (currentParams s)))) .ok)) s

/-- READ_SEGMENT: BUSY where the bank is busy or the slot lies in the suspended sector (R86). -/
def execReadSegment (l : Link) (p : List Byte) (s : State) : Result :=
  take l ⟨kReadSegment, p⟩ (fun s =>
    match readSlotNo p with
    | none => answer s .malformed
    | some n =>
      if bankBusy s.store.op (inBankB (slotSector n.val)) || slotAbsent s.store.op n.val then answer s .busy
      else answerWith s .ok (.slot n (SlotMap.read s.store.slots n.val))) s

/-- The store after PROTECT of a sector: at once, or deferred while a write into it is in flight (R69). -/
def Store.protect (x : Store) (sec : SectorNo) (on : Bool) : Store :=
  if on && decide ((writtenSlot x.op).map sectorOf = some sec) then { x with deferred := true }
  else if decide ((writtenSlot x.op).map sectorOf = some sec) then
    { x with deferred := false, mask := x.mask.set sec.val false sec.isLt }
  else { x with mask := x.mask.set sec.val on sec.isLt }

/-- PROTECT (R69). -/
def execProtect (l : Link) (p : List Byte) (s : State) : Result :=
  take l ⟨kProtect, p⟩ (fun s =>
    match readProtect p with
    | none => answer s .malformed
    | some (n, on) =>
      match slotSectorOf n with
      | none => answer s .protected_
      | some sec => answer (s.setStore (s.store.protect sec on)) .ok) s

/-- The store after a write of a slot ended: the slot's new state, the store state left to, and a deferred protection
applied (R69, R74). -/
def Store.writeEnd (x : Store) (n : SlotNo) (g : Segment) (op : StoreOp) (result : CellResult) : Store :=
  { x with
    slots := SlotMap.write x.slots n.val (match result with | .ok => .filled g | .failed => .spoiled)
    mask := if x.deferred then x.mask.set (sectorOf n).val true (sectorOf n).isLt else x.mask
    deferred := false
    op := op }

/-- WRITE_COMPLETION; without a write in flight there is nothing to complete (R74, R78; log 17). -/
def execWriteCompletion (result : CellResult) (s : State) : Result :=
  match s.store.op with
  | .writing n g => .next ((s.setStore (s.store.writeEnd n g .idle result)).send (.storeDone (.write n) result))
  | .writingInSuspend n g sec left =>
    .next ((s.setStore (s.store.writeEnd n g (.eraseSuspended sec left) result)).send (.storeDone (.write n) result))
  | _ => .next s

/-- ERASE_COMPLETION: an erase in ERASING completes when its remaining time is 0; without one there is nothing to
complete (R76; log 1, 17). -/
def execEraseCompletion (result : CellResult) (s : State) : Result :=
  match s.store.op with
  | .erasing sec 0 =>
    .next ((s.setStore
      { s.store with
        slots := SlotMap.writeSector s.store.slots sec (match result with | .ok => .empty | .failed => .spoiled)
        op := .idle }).send (.storeDone (.erase sec) result))
  | _ => .next s

/-- The bytes that a check feeds for a sector: the parameter record for sector 63, else each of its 32 slots (R82). -/
def sectorBytes (x : Store) (n : Nat) : List Byte :=
  if n = 63 then x.record
  else (List.range' (32 * n) 32).flatMap fun k => slotBytes (SlotMap.read x.slots k)

/-- CHECK_SECTOR_COVERED: one sector's bytes fed and counted; at the last one the check completes (R82, R88). -/
def execCheckSectorCovered (s : State) : Result :=
  match s.store.op with
  | .checking first count progress crc =>
    let crc' := crcFeed crc (sectorBytes s.store (first + progress))
    if progress < count then .next (s.setStore (s.store.withOp (.checking first count (progress + 1) crc')))
    else .next ((s.setStore (s.store.withOp .idle)).send (.storeDone (.check first count crc') .ok))
  | _ => .next s

/-- SAVE_ERASE_PHASE_END: sector 63 is erased; FAILED ends the save, OK enters its write phase (R68, R84; log 12). -/
def execSaveErasePhaseEnd (result : CellResult) (s : State) : Result :=
  match s.store.op with
  | .saving .erase copy =>
    match result with
    | .ok => .next (s.setStore { s.store with record := blankRecord, op := .saving .write copy })
    | .failed => .next ((s.setStore { s.store with record := blankRecord, op := .idle }).send (.storeDone .save .failed))
  | _ => .next s

/-- SAVE_WRITE_PHASE_END: OK leaves the record of the copy and clears PARAMETERS DEFAULTED; FAILED leaves a record that
reads 0xFF (R68, R84). -/
def execSaveWritePhaseEnd (result : CellResult) (s : State) : Result :=
  match s.store.op with
  | .saving .write copy =>
    match result with
    | .ok =>
      .next ((s.setStore { s.store with record := paramRecord copy, op := .idle, defaulted := false }).send (.storeDone .save .ok))
    | .failed => .next ((s.setStore { s.store with record := blankRecord, op := .idle }).send (.storeDone .save .failed))
  | _ => .next s

end Sys2Proof.Machine
end

