-- ==== Sys2Proof/Machine/HoldResume.lean ====
section
/-! DEFINITION. The hold controller's requests: HOLD (R153), RESUME (R154 to R158), SNAPSHOT READ (R159) and SNAPSHOT EDIT
(R160). Hold entry is `enterHold` in Ops. -/

namespace Sys2Proof.Machine

/-- HOLD: from any link; in HOLD it changes nothing (R153). -/
def execHold (l : Link) (p : List Byte) (s : State) : Result :=
  take l ⟨kHold, p⟩ (fun s =>
    match readEmpty p with
    | none => answer s .malformed
    | some _ => answer (if s.inHold then s else enterHold s (.request l)) .ok) s

/-- The restored mode of an axis: TRACK or MOVE where it was saved and the axis is REFERENCED, else PARKED; the saved
destination is clamped to the travel (R157). -/
def restoredMode (a : Axis) (sv : SavedAxis) (c : AxisChannel) : PriorMode :=
  if c.referenced then
    match sv.mode, sv.destination with
    | some .track, _ => .track
    | some .move, some x => .move (clampTravel a c.params x)
    | _, _ => .parked
  else .parked

/-- Where RESUME takes an axis, by its mode (R157). -/
def restoreAxis (a : Axis) (sv : SavedAxis) (c : AxisChannel) : AxisChannel :=
  match c.mode with
  | .held => { c with mode := modeOfPrior (restoredMode a sv c), v := 0, lagging := false }
  | .stopping .held =>
    match restoredMode a sv c with
    | .track => { c with mode := .track, lagging := false }
    | .move x => { c with mode := .move x, lagging := false }
    | _ => { c with mode := .stopping .parked }
  | .recovering .held left => { c with mode := .recovering (restoredMode a sv c) left }
  | _ => c

/-- The clock that RESUME leaves: T at the resume time, R 0, Rt restored or 0 (R16, R156). -/
def resumeClock (c : Clock) (snap : Snapshot) : Clock :=
  { t := if snap.resumeTime = snap.entryT then c.t else clampSky snap.resumeTime
    r := c.r
    rt := if snap.restoreRate then snap.entryRt else 0 }

/-- RESUME carried out without a pending cause: the clock, the axes, NORMAL, RESUMED, and then the jump where the resume
time differs from the entry T (R156 to R158, R11). -/
def resumeShow (s : State) (snap : Snapshot) : State :=
  let clock := resumeClock s.clock snap
  let s1 := (s.setClock clock).setAxes (Table.build fun a => restoreAxis a (snap.saved.get a) (s.axis a))
  let s2 := (s1.setHold (.normal (some snap))).send (.resumed clock.t clock.rt)
  if snap.resumeTime = snap.entryT then s2 else skyJump s2 s.clock.t clock.t

/-- A request that the controlling link and Link C may send (R154, R160). -/
def holderOrConsole (s : State) (l : Link) : Bool := decide (s.grant.holder = some l) || decide (l = .c)

/-- RESUME: NOT_GRANTED, NO_OPERATION, THERMAL, then a pending cause taken up with HELD, else carried out
(R154 to R158). -/
def execResume (l : Link) (p : List Byte) (s : State) : Result :=
  take l ⟨kResume, p⟩ (fun s =>
    match readEmpty p with
    | none => answer s .malformed
    | some _ =>
      if !holderOrConsole s l then answer s .notGranted
      else
        match s.holdCtl with
        | .normal _ => answer s .noOperation
        | .hold snap pendingCause =>
          if tooHot s.thermal then answer s .thermal
          else
            match pendingCause with
            | some cause =>
              answer ((s.setHold (.hold { snap with cause := cause } none)).send (.holdEntered cause snap.entryT)) .held
            | none => answer (resumeShow s snap) .ok) s

/-- SNAPSHOT_READ (R159). -/
def execSnapshotRead (l : Link) (p : List Byte) (s : State) : Result :=
  take l ⟨kSnapshotRead, p⟩ (fun s =>
    match readEmpty p with
    | none => answer s .malformed
    | some _ => answerWith s .ok (.snapshot s.holdCtl)) s

/-- SNAPSHOT_EDIT (R160). -/
def execSnapshotEdit (l : Link) (p : List Byte) (s : State) : Result :=
  take l ⟨kSnapshotEdit, p⟩ (fun s =>
    match readSnapshotEdit p with
    | none => answer s .malformed
    | some (flag, time) =>
      if !holderOrConsole s l then answer s .notGranted
      else
        match s.holdCtl with
        | .normal _ => answer s .noOperation
        | .hold snap pendingCause =>
          answer (s.setHold (.hold { snap with restoreRate := flag, resumeTime := clampSky time } pendingCause))
            (clampedIf (decide (clampSky time ≠ time)))) s

end Sys2Proof.Machine
end

