-- ==== Sys2Proof/Machine/LinkEvents.lean ====
section
/-! DEFINITION. The links: characters and frames in (R178, R179), replies, reports and events out (R181, R194, R195), the
guards (R189 to R191), the grant's requests (R184 to R186), READ STATUS (R196), LINK RESET (R197) and frames that are
no request (R180). -/

namespace Sys2Proof.Machine

/-! ### Frames in -/

/-- An armed guard restarted with its full interval (R190). -/
def Guard.restart : Guard → Guard
  | .disarmed => .disarmed
  | .running i a _ => .running i a i.ms
  | .expired i a => .running i a i.ms

/-- A frame arrival on a link: the guard restarted, the frame appended or dropped as an overrun (R179, R190). -/
def LinkState.arrive (f : Frame) (x : LinkState) : LinkState :=
  let y := { x with guard := x.guard.restart }
  if y.buffer.length < Config.bufferDepth then { y with buffer := y.buffer ++ [f] } else y.raiseOverrun

/-- A frame dropped by the receiver: LINE ERROR, and HUNTING again (R178). -/
def LinkState.dropped (x : LinkState) : LinkState := { x.raiseLineError with receiver := .hunting }

/-- The characters that follow the start byte of a frame whose length byte is `n`: length, kind, payload and check. -/
def bodyLength (n : Nat) : Nat := n + 4

/-- The receiver after a whole frame body: checked, and arrived or dropped (R178, R179). -/
def LinkState.complete (body : List Byte) (x : LinkState) : LinkState :=
  let n := body.length - 4
  let covered := body.take (n + 2)
  if crcBytes (crcOf covered) = body.drop (n + 2) then
    LinkState.arrive ⟨(body.drop 1).headD 0, (body.drop 2).take n⟩ { x with receiver := .hunting }
  else x.dropped

/-- One character taken by a receiver; `fault` is a missing stop bit (R178). -/
def LinkState.character (char : Byte) (fault : Bool) (x : LinkState) : LinkState :=
  match x.receiver with
  | .hunting =>
    if fault || decide (char ≠ 0xA5) then x.raiseLineError else { x with receiver := .collecting [] }
  | .collecting got =>
    if fault then x.dropped
    else
      let body := got ++ [char]
      let n := (body.headD 0).toNat
      if Config.maxPayload < n then x.dropped
      else if body.length < bodyLength n then { x with receiver := .collecting body }
      else x.complete body

/-- CHARACTER_RECEIVED (R178); the character that completes a valid frame is its arrival (R179; log 15). -/
def execCharacterReceived (l : Link) (char : Byte) (fault : Bool) (s : State) : Result :=
  .next (s.setLink l ((s.link l).character char fault))

/-- FRAME_ARRIVAL: a complete frame with a good check arrives; a payload longer than any frame's is dropped
(R178, R179; log 15). -/
def execFrameArrival (l : Link) (kind : Byte) (payload : List Byte) (s : State) : Result :=
  if payload.length ≤ Config.maxPayload then
    .next (s.setLink l (LinkState.arrive ⟨kind, payload⟩ { s.link l with receiver := .hunting }))
  else .next (s.setLink l (s.link l).dropped)

/-- NON_REQUEST_KIND: a taken frame whose kind is no request kind is answered MALFORMED with the kind received
(R180, R200). A request kind is another row's (log 17). -/
def execNonRequestKind (l : Link) (kind : Byte) (p : List Byte) (s : State) : Result :=
  if requestKinds.contains kind then .next s
  else take l ⟨kind, p⟩ (fun s => answerWith s .malformed (.kindReceived kind)) s

/-! ### Frames out -/

/-- The transmitter's choice: the reply, else the waiting report with the flags read into it and cleared, else the
oldest event (R181, R195). -/
def LinkState.transmit (x : LinkState) : LinkState :=
  match x.reply with
  | some r => { x with reply := none, sending := some r.frame }
  | none =>
    match x.report with
    | some rep => { x.clearFlags with report := none, sending := some (rep.frame x.overrun x.lineError) }
    | none =>
      match x.events with
      | e :: rest => { x with events := rest, sending := some e.frame }
      | [] => x

/-- TRANSMIT_START (R181; log 8). -/
def execTransmitStart (l : Link) (s : State) : Result := .next (s.setLink l (s.link l).transmit)

/-- One axis as a report carries it: the wrapped angle of a rotary axis, P of a bounded one (R117, R195). -/
def reportAxis (a : Axis) (c : AxisChannel) : AxisReport where
  position := if bounded a then c.p else wrap c.p
  mode := c.mode.name
  referenced := c.referenced
  lagging := c.lagging
  fault := c.mode.isFault

/-- A sky report of the values as they stand (R195). -/
def collectReport (s : State) : SkyReport where
  t := s.clock.t
  r := s.clock.r
  rt := s.clock.rt
  holder := s.grant.holder
  inHold := s.inHold
  warning := s.thermal.warning
  axes := Table.build fun a => reportAxis a (s.axis a)

/-- REPORT_EVENT: the report collected into the slot, in place of one not yet sent (R194, R195). With reporting OFF, or
with time left to the next report event, there is none (log 1, 17). -/
def execReportEvent (l : Link) (s : State) : Result :=
  match (s.link l).reporting with
  | .off | .every _ (_ + 1) => .next s
  | .every i 0 => .next (s.setLink l { s.link l with report := some (collectReport s), reporting := .every i i.ms })

/-- REPORT_INTERVAL: the timer restarted, or stopped with a waiting report discarded (R194). -/
def execReportInterval (l : Link) (p : List Byte) (s : State) : Result :=
  take l ⟨kReportInterval, p⟩ (fun s =>
    match readReportInterval p with
    | none => answer s .malformed
    | some none => answer (s.setLink l { s.link l with reporting := .off, report := none }) .ok
    | some (some i) => answer (s.setLink l { s.link l with reporting := .every i i.ms }) .ok) s

/-! ### Guards -/

/-- The guard after GUARD ARM; none where it is LOCKED (R189). -/
def Guard.arm (g : Guard) (i : GuardInterval) (a : GuardAction) : Option Guard :=
  match g with
  | .disarmed => some (.running i a i.ms)
  | .running _ old _ => if old = .hold ∧ a = .release then none else some (.running i a i.ms)
  | .expired _ old => if old = .hold ∧ a = .release then none else some (.running i a i.ms)

/-- GUARD_ARM (R189). -/
def execGuardArm (l : Link) (p : List Byte) (s : State) : Result :=
  take l ⟨kGuardArm, p⟩ (fun s =>
    match readGuardArm p with
    | none => answer s .malformed
    | some (i, a) =>
      match (s.link l).guard.arm i a with
      | none => answer s .locked
      | some g => answer (s.setLink l { s.link l with guard := g }) .ok) s

/-- What a guard expiry does after the guard became EXPIRED, in its five parts (R191). -/
def guardExpire (s : State) (l : Link) (action : GuardAction) : State :=
  let held := decide (s.grant.holder = some l)
  let s1 := s.send (.guardExpired l action)
  let s2 := if held then releaseGrant s1 .guard else s1
  let s3 := if held && decide (action = .release) then s2.setClock s2.clock.releaseTarget else s2
  let s4 := if action = .hold then handCause s3 (.guard l) else s3
  leaveQueue s4 l

/-- GUARD_EXPIRY of a RUNNING guard whose remaining time is 0 (R190, R191); another guard does not expire (R192; log 1,
17). -/
def execGuardExpiry (l : Link) (s : State) : Result :=
  match (s.link l).guard with
  | .running i a 0 => .next (guardExpire (s.setLink l { s.link l with guard := .expired i a }) l a)
  | _ => .next s

/-! ### The grant -/

/-- GRANT_REQUEST (R184). -/
def execGrantRequest (l : Link) (p : List Byte) (s : State) : Result :=
  take l ⟨kGrantRequest, p⟩ (fun s =>
    match readEmpty p with
    | none => answer s .malformed
    | some _ =>
      match s.grant.holder with
      | none => answer (grantChange s (some l) (s.grant.queue.erase l) .request) .ok
      | some h =>
        if h = l then answer s .ok
        else if l ∈ s.grant.queue then answer s .queued
        else answer (s.setGrant { s.grant with queue := s.grant.queue ++ [l] }) .queued) s

/-- GRANT_RELEASE (R185). -/
def execGrantRelease (l : Link) (p : List Byte) (s : State) : Result :=
  take l ⟨kGrantRelease, p⟩ (fun s =>
    match readEmpty p with
    | none => answer s .malformed
    | some _ =>
      if s.grant.holder = some l then answer (releaseGrant s .release) .ok
      else answer (leaveQueue s l) .ok) s

/-- GRANT_SEIZE (R186). -/
def execGrantSeize (l : Link) (p : List Byte) (s : State) : Result :=
  take l ⟨kGrantSeize, p⟩ (fun s =>
    match readEmpty p with
    | none => answer s .malformed
    | some _ =>
      if l ≠ .c then answer s .notConsole
      else if s.grant.holder = some .c then answer s .ok
      else answer (grantChange s (some .c) (s.grant.queue.erase .c) .seize) .ok) s

/-! ### The link's own condition -/

/-- What READ STATUS carries (R196). -/
def statusOf (s : State) (l : Link) : StatusReading where
  overrun := (s.link l).overrun
  lineError := (s.link l).lineError
  defaulted := s.store.defaulted
  holder := s.grant.holder
  queue := s.grant.queue
  guard := (s.link l).guard
  reporting := (s.link l).reporting
  events := (s.link l).events.length

/-- READ_STATUS: the link's condition, and then its two flags cleared (R196). -/
def execReadStatus (l : Link) (p : List Byte) (s : State) : Result :=
  take l ⟨kReadStatus, p⟩ (fun s =>
    match readEmpty p with
    | none => answer s .malformed
    | some _ => answerWith (s.setLink l (s.link l).clearFlags) .ok (.status (statusOf s l))) s

/-- What LINK RESET does to the link itself; the receiver, the reply path, the frame being sent and the guard are left
(R197). -/
def LinkState.resetRequest (x : LinkState) : LinkState :=
  { x.clearFlags with buffer := [], events := [], report := none, reporting := .off }

/-- LINK_RESET (R197). -/
def execLinkReset (l : Link) (p : List Byte) (s : State) : Result :=
  take l ⟨kLinkReset, p⟩ (fun s =>
    match readEmpty p with
    | none => answer s .malformed
    | some _ =>
      let s1 := leaveQueue (s.setLink l (s.link l).resetRequest) l
      answer (if s1.grant.holder = some l then releaseGrant s1 .linkReset else s1) .ok) s

end Sys2Proof.Machine
end

