-- ==== Sys2Proof/Machine/Patch.lean ====
section
/-! DEFINITION. The patch table's requests (R59 to R63). -/

namespace Sys2Proof.Machine

/-- One patch entry replaced. -/
def State.setPatch (s : State) (n : PatchNo) (e : PatchEntry) : State := s.setPatches (s.patches.set n.val e n.isLt)

/-- Whether an enabled entry names a slot index (R61). -/
def enabledAt (patches : Vector PatchEntry 8) (slot : SlotNo) : Bool :=
  patches.toList.any fun e =>
    match e with
    | .enabled m _ => decide (m = slot)
    | _ => false

/-- PATCH_SET (R59, R60). -/
def execPatchSet (l : Link) (p : List Byte) (s : State) : Result :=
  take l ⟨kPatchSet, p⟩ (fun s =>
    match readPatchSet p with
    | none => answer s .malformed
    | some (n, slot, g) =>
      needGrant s l
        (match s.patches.get n with
          | .enabled _ _ => answer s .enabled
          | _ => answer (s.setPatch n (.disabled slot g)) .ok)) s

/-- PATCH_ENABLE: EMPTY, then DUPLICATE, then enabled (R59, R61). -/
def execPatchEnable (l : Link) (p : List Byte) (s : State) : Result :=
  take l ⟨kPatchEnable, p⟩ (fun s =>
    match readPatchNo p with
    | none => answer s .malformed
    | some n =>
      needGrant s l
        (match s.patches.get n with
          | .unset => answer s .empty
          | .enabled _ _ => answer s .ok
          | .disabled slot g =>
            if enabledAt s.patches slot then answer s .duplicate else answer (s.setPatch n (.enabled slot g)) .ok)) s

/-- PATCH_DISABLE (R59, R62). -/
def execPatchDisable (l : Link) (p : List Byte) (s : State) : Result :=
  take l ⟨kPatchDisable, p⟩ (fun s =>
    match readPatchNo p with
    | none => answer s .malformed
    | some n =>
      needGrant s l
        (match s.patches.get n with
          | .enabled slot g => answer (s.setPatch n (.disabled slot g)) .ok
          | _ => answer s .ok)) s

/-- PATCH_READ (R63). -/
def execPatchRead (l : Link) (p : List Byte) (s : State) : Result :=
  take l ⟨kPatchRead, p⟩ (fun s =>
    match readPatchNo p with
    | none => answer s .malformed
    | some n => answerWith s .ok (.patch n (s.patches.get n))) s

end Sys2Proof.Machine
end

