-- ==== Sys2Proof/Machine/SkyClock.lean ====
section
/-! DEFINITION. The sky clock: the clock step (R3 to R6) and the requests SET RATE, SET TIME and NUDGE (R7 to R11). -/

namespace Sys2Proof.Machine

/-- The ramp: R brought toward Rt by at most max(256, floor(|R| / 64)) (R3). -/
def ramp (r rt : Int) : Int :=
  let d := rt - r
  r + sgn d * min (mag d) (max 256 (mag r / 64))

/-- The clock after ramp, advance and saturation, and the side reached where the step saturated (R3 to R5). -/
def clockAdvance (c : Clock) : Clock × Option Side :=
  let r := ramp c.r c.rt
  let t1 := c.t + r
  if skyMax < t1 then ({ t := skyMax, r := 0, rt := 0 }, some .high)
  else if t1 < skyMin then ({ t := skyMin, r := 0, rt := 0 }, some .low)
  else ({ t := t1, r := r, rt := c.rt }, none)

/-- SKY LIMIT where a step saturated (R5). -/
def sendSkyLimit (s : State) : Option Side → State
  | some side => s.send (.skyLimit side)
  | none => s

/-- CLOCK_STEP: ramp, advance, saturation with SKY LIMIT, and the change handed to the watch unit (R3 to R6). -/
def execClockStep (s : State) : Result :=
  let x := clockAdvance s.clock
  .next (observe (sendSkyLimit (s.setClock x.1) x.2) .skyTime (.step s.clock.t x.1.t))

/-- SET_RATE: the target rate, clamped to RATE_MAX with its sign kept (R7, R8). -/
def execSetRate (l : Link) (p : List Byte) (s : State) : Result :=
  take l ⟨kSetRate, p⟩ (fun s =>
    match readSigned8 p with
    | none => answer s .malformed
    | some rate =>
      needGrant s l (needNormal s
        (let rt := clamp rate (-rateMax) rateMax
         answer (s.setClock { s.clock with rt := rt }) (clampedIf (decide (rt ≠ rate)))))) s

/-- Sky time moved by a jump to a value clamped to the range, with the reply (R9 to R11). -/
def jumpTo (s : State) (t : Int) : Handled :=
  answer (skyJump (s.setClock { s.clock with t := clampSky t }) s.clock.t (clampSky t)) (clampedIf (decide (clampSky t ≠ t)))

/-- SET_TIME: T at a whole sky millisecond, as a jump (R7, R9, R11). -/
def execSetTime (l : Link) (p : List Byte) (s : State) : Result :=
  take l ⟨kSetTime, p⟩ (fun s =>
    match readSigned8 p with
    | none => answer s .malformed
    | some ms => needGrant s l (needNormal s (jumpTo s (ms * 256)))) s

/-- NUDGE: T moved by an offset, as a jump that keeps the fraction (R7, R10, R11). -/
def execNudge (l : Link) (p : List Byte) (s : State) : Result :=
  take l ⟨kNudge, p⟩ (fun s =>
    match readSigned8 p with
    | none => answer s .malformed
    | some offset => needGrant s l (needNormal s (jumpTo s (s.clock.t + offset)))) s

end Sys2Proof.Machine
end

