-- ==== Sys2Proof/Machine/WatchRequests.lean ====
section
/-! DEFINITION. The watch unit's requests (R173 to R175). Testing and firing are `observe` in Ops. -/

namespace Sys2Proof.Machine

/-- One watch entry replaced. -/
def State.setWatch (s : State) (n : WatchNo) (w : Watch) : State := s.setWatches (s.watches.set n.val w n.isLt)

/-- Whether an entry is DEFINED and owned by another link than one that may act on it: its owner or Link C
(R173, R174). -/
def ownedByOther (w : Watch) (l : Link) : Bool :=
  match w.definition with
  | some x => decide (x.owner ≠ l) && decide (l ≠ .c)
  | none => false

/-- The reference as taken: clamped for sky time, mod 2^32 for a rotary axis, as given for a bounded one (R173). -/
def takeReference (subject : WatchSubject) (x : Int) : Int :=
  match subject with
  | .skyTime => clampSky x
  | .axis a => if bounded a then x else wrap x

/-- Whether taking the reference is a clamp (R173). -/
def referenceClamped (subject : WatchSubject) (x : Int) : Bool :=
  match subject with
  | .skyTime => decide (clampSky x ≠ x)
  | .axis _ => false

/-- The width as taken (R173). -/
def takeWidth (x : Int) : Int := clamp x 1 halfTurn

/-- WATCH_SET: NOT_GRANTED for LOCAL without the grant, OWNED, else defined (R173). -/
def execWatchSet (l : Link) (p : List Byte) (s : State) : Result :=
  take l ⟨kWatchSet, p⟩ (fun s =>
    match readWatchSet p with
    | none => answer s .malformed
    | some x =>
      if x.scope = .local_ ∧ s.grant.holder ≠ some l then answer s .notGranted
      else if ownedByOther (s.watches.get x.entry) l then answer s .owned
      else
        answer
          (s.setWatch x.entry
            { definition := some
                { owner := l
                  scope := x.scope
                  enabled := false
                  subject := x.subject
                  condition := x.condition
                  reference := takeReference x.subject x.reference
                  width := takeWidth x.width
                  action := x.action }
              hit := false
              met := false })
          (clampedIf (referenceClamped x.subject x.reference || decide (takeWidth x.width ≠ x.width)))) s

/-- WATCH_ENABLE: OWNED, EMPTY, NOT_GRANTED for a LOCAL entry without the grant, else enabled (R174). -/
def execWatchEnable (l : Link) (p : List Byte) (s : State) : Result :=
  take l ⟨kWatchEnable, p⟩ (fun s =>
    match readWatchNo p with
    | none => answer s .malformed
    | some n =>
      let w := s.watches.get n
      if ownedByOther w l then answer s .owned
      else
        match w.definition with
        | none => answer s .empty
        | some x =>
          if x.scope = .local_ ∧ s.grant.holder ≠ some l then answer s .notGranted
          else answer (s.setWatch n { w with definition := some { x with enabled := true } }) .ok) s

/-- WATCH_DISABLE: OWNED, else the enabled flag cleared (R174). -/
def execWatchDisable (l : Link) (p : List Byte) (s : State) : Result :=
  take l ⟨kWatchDisable, p⟩ (fun s =>
    match readWatchNo p with
    | none => answer s .malformed
    | some n =>
      let w := s.watches.get n
      if ownedByOther w l then answer s .owned
      else
        match w.definition with
        | none => answer s .ok
        | some x => answer (s.setWatch n { w with definition := some { x with enabled := false } }) .ok) s

/-- WATCH_CLEAR: OWNED, else FREE with its marks cleared; a FREE entry is not changed (R174). -/
def execWatchClear (l : Link) (p : List Byte) (s : State) : Result :=
  take l ⟨kWatchClear, p⟩ (fun s =>
    match readWatchNo p with
    | none => answer s .malformed
    | some n =>
      let w := s.watches.get n
      if ownedByOther w l then answer s .owned
      else
        match w.definition with
        | none => answer s .ok
        | some _ => answer (s.setWatch n { definition := none, hit := false, met := false }) .ok) s

/-- WATCH_STATUS (R175). -/
def execWatchStatus (l : Link) (p : List Byte) (s : State) : Result :=
  take l ⟨kWatchStatus, p⟩ (fun s =>
    match readEmpty p with
    | none => answer s .malformed
    | some _ => answerWith s .ok (.watches s.watches)) s

/-- The marks of one entry after an acknowledgement: bit k names HIT of entry k, bit 4 + k its MET (R175, R201). -/
def acknowledge (marks : Nat) (n : WatchNo) (w : Watch) : Watch :=
  { w with hit := w.hit && !marks.testBit n.val, met := w.met && !marks.testBit (4 + n.val) }

/-- WATCH_ACKNOWLEDGE (R175). -/
def execWatchAcknowledge (l : Link) (p : List Byte) (s : State) : Result :=
  take l ⟨kWatchAcknowledge, p⟩ (fun s =>
    match readMarks p with
    | none => answer s .malformed
    | some marks => answer (s.setWatches (Table.build fun n => acknowledge marks n (s.watches.get n))) .ok) s

end Sys2Proof.Machine
end

