-- ==== Sys2Proof/Machine/Dispatch.lean ====
section
/-! DEFINITION. The commands and their meanings: one arm for each row of spec/opcode_table.json. -/

namespace Sys2Proof.Machine

def exec (i : Instr) (s : State) : Host.Outcome State Fault Refusal :=
  match i with
  | .deviceReset trips switches => Sys2Proof.Machine.execDeviceReset trips switches s
  | .clockStep => Sys2Proof.Machine.execClockStep s
  | .profileUpdate a => Sys2Proof.Machine.execProfileUpdate a s
  | .indexEdge a => Sys2Proof.Machine.execIndexEdge a s
  | .qualifiedTrip x => Sys2Proof.Machine.execQualifiedTrip x s
  | .endSwitch a side => Sys2Proof.Machine.execEndSwitch a side s
  | .retryExpiry a line => Sys2Proof.Machine.execRetryExpiry a line s
  | .tripWindowExpiry a => Sys2Proof.Machine.execTripWindowExpiry a s
  | .thermalSample celsius => Sys2Proof.Machine.execThermalSample celsius s
  | .writeCompletion result => Sys2Proof.Machine.execWriteCompletion result s
  | .eraseCompletion result => Sys2Proof.Machine.execEraseCompletion result s
  | .checkSectorCovered => Sys2Proof.Machine.execCheckSectorCovered s
  | .saveErasePhaseEnd result => Sys2Proof.Machine.execSaveErasePhaseEnd result s
  | .saveWritePhaseEnd result => Sys2Proof.Machine.execSaveWritePhaseEnd result s
  | .frameArrival l kind payload => Sys2Proof.Machine.execFrameArrival l kind payload s
  | .transmitStart l => Sys2Proof.Machine.execTransmitStart l s
  | .reportEvent l => Sys2Proof.Machine.execReportEvent l s
  | .guardExpiry l => Sys2Proof.Machine.execGuardExpiry l s
  | .nonRequestKind l kind payload => Sys2Proof.Machine.execNonRequestKind l kind payload s
  | .setRate l payload => Sys2Proof.Machine.execSetRate l payload s
  | .setTime l payload => Sys2Proof.Machine.execSetTime l payload s
  | .nudge l payload => Sys2Proof.Machine.execNudge l payload s
  | .setSite l payload => Sys2Proof.Machine.execSetSite l payload s
  | .coupleOff l payload => Sys2Proof.Machine.execCoupleOff l payload s
  | .coupleOn l payload => Sys2Proof.Machine.execCoupleOn l payload s
  | .readTrack l payload => Sys2Proof.Machine.execReadTrack l payload s
  | .patchSet l payload => Sys2Proof.Machine.execPatchSet l payload s
  | .patchEnable l payload => Sys2Proof.Machine.execPatchEnable l payload s
  | .patchDisable l payload => Sys2Proof.Machine.execPatchDisable l payload s
  | .patchRead l payload => Sys2Proof.Machine.execPatchRead l payload s
  | .segmentWrite l payload => Sys2Proof.Machine.execSegmentWrite l payload s
  | .sectorErase l payload => Sys2Proof.Machine.execSectorErase l payload s
  | .eraseSuspend l payload => Sys2Proof.Machine.execEraseSuspend l payload s
  | .eraseResume l payload => Sys2Proof.Machine.execEraseResume l payload s
  | .sectorCheck l payload => Sys2Proof.Machine.execSectorCheck l payload s
  | .saveParameters l payload => Sys2Proof.Machine.execSaveParameters l payload s
  | .readSegment l payload => Sys2Proof.Machine.execReadSegment l payload s
  | .protect l payload => Sys2Proof.Machine.execProtect l payload s
  | .track l payload => Sys2Proof.Machine.execTrack l payload s
  | .move l payload => Sys2Proof.Machine.execMove l payload s
  | .park l payload => Sys2Proof.Machine.execPark l payload s
  | .setAxisParam l payload => Sys2Proof.Machine.execSetAxisParam l payload s
  | .readAxis l payload => Sys2Proof.Machine.execReadAxis l payload s
  | .home l payload => Sys2Proof.Machine.execHome l payload s
  | .clearFault l payload lines => Sys2Proof.Machine.execClearFault l payload lines s
  | .setThermalLimit l payload => Sys2Proof.Machine.execSetThermalLimit l payload s
  | .hold l payload => Sys2Proof.Machine.execHold l payload s
  | .resume l payload => Sys2Proof.Machine.execResume l payload s
  | .snapshotRead l payload => Sys2Proof.Machine.execSnapshotRead l payload s
  | .snapshotEdit l payload => Sys2Proof.Machine.execSnapshotEdit l payload s
  | .watchSet l payload => Sys2Proof.Machine.execWatchSet l payload s
  | .watchEnable l payload => Sys2Proof.Machine.execWatchEnable l payload s
  | .watchDisable l payload => Sys2Proof.Machine.execWatchDisable l payload s
  | .watchClear l payload => Sys2Proof.Machine.execWatchClear l payload s
  | .watchStatus l payload => Sys2Proof.Machine.execWatchStatus l payload s
  | .watchAcknowledge l payload => Sys2Proof.Machine.execWatchAcknowledge l payload s
  | .grantRequest l payload => Sys2Proof.Machine.execGrantRequest l payload s
  | .grantRelease l payload => Sys2Proof.Machine.execGrantRelease l payload s
  | .grantSeize l payload => Sys2Proof.Machine.execGrantSeize l payload s
  | .guardArm l payload => Sys2Proof.Machine.execGuardArm l payload s
  | .reportInterval l payload => Sys2Proof.Machine.execReportInterval l payload s
  | .readStatus l payload => Sys2Proof.Machine.execReadStatus l payload s
  | .linkReset l payload => Sys2Proof.Machine.execLinkReset l payload s
  | .characterReceived l char fault => Sys2Proof.Machine.execCharacterReceived l char fault s

end Sys2Proof.Machine
end

