-- ==== Sys2Proof/Machine/RealTime.lean ====
section
/-! DEFINITION. One real millisecond for the remaining times that the manual lets fall with real time: the erase running
time in ERASING (R70, R76), the retry timer and trip window (R131), a RUNNING guard (R189) and the report timer (R194).
No row of the table stands for it: it is what a step does on an empty queue (DESIGN CHOICE, log 2). A remaining time
stays at 0 until its expiry or completion comes as a command (log 1). -/

namespace Sys2Proof.Machine

/-- The store's remaining erase time falls in ERASING alone (R70). -/
def StoreOp.elapse : StoreOp → StoreOp
  | .erasing sec left => .erasing sec (left - 1)
  | op => op

/-- The retry timer and the trip window of an axis (R131). -/
def AxisChannel.elapse (c : AxisChannel) : AxisChannel :=
  { c with
    mode := match c.mode with | .recovering prior left => .recovering prior (left - 1) | m => m
    tripWindow := c.tripWindow.map (· - 1) }

/-- The guard and the report timer of a link (R189, R194). -/
def LinkState.elapse (x : LinkState) : LinkState :=
  { x with
    guard := match x.guard with | .running i a left => .running i a (left - 1) | g => g
    reporting := match x.reporting with | .every i left => .every i (left - 1) | r => r }

/-- One real millisecond without a command. -/
def passMillisecond (s : State) : State :=
  ((s.setStore { s.store with op := s.store.op.elapse }).setAxes (Table.map AxisChannel.elapse s.axes)).setLinks
    (s.links.map LinkState.elapse)

end Sys2Proof.Machine
end

