-- ==== Sys2Proof/Safety.lean ====
section
/-! DEFINITION. What counts as a lawful state: the laws that the manual says the part keeps, one definition for each, in
the terms the statements use. Each holds after device reset and is kept by every step; none is assumed by `exec`. -/

namespace Sys2Proof.Safety

open Machine

/-! ### When a command finds what it acts on -/

/-- Link `l` can take the frame of this kind and payload now (R180; log 3). -/
def Ready (s : State) (l : Link) (kind : Byte) (payload : List Byte) : Prop := s.canTake l ⟨kind, payload⟩ = true

/-- The state once the frame has left the input buffer and the reply stands in the reply slot (R180). -/
def replied (s : State) (l : Link) (kind : Byte) (status : Status) (data : ReplyData) : State :=
  s.putReply l { request := kind, status := status, data := data }

/-- No DEFINED watch entry has this subject. -/
def Unwatched (s : State) (subject : WatchSubject) : Prop :=
  ∀ i : WatchNo, ∀ w, (s.watches.get i).definition = some w → w.subject ≠ subject

/-- No DEFINED watch entry on sky time has the condition INSIDE, the one condition tested at a jump (R11, R165). -/
def NoInsideOnSky (s : State) : Prop :=
  ∀ i : WatchNo, ∀ w, (s.watches.get i).definition = some w → w.subject = .skyTime → w.condition ≠ .inside

/-! ### The sky clock (R1) and the watch entries (R173) -/

/-- R1: T within the range of sky time, and neither rate beyond RATE_MAX. -/
def ClockInRange (c : Clock) : Prop :=
  (skyMin ≤ c.t ∧ c.t ≤ skyMax) ∧ (-rateMax ≤ c.r ∧ c.r ≤ rateMax) ∧ (-rateMax ≤ c.rt ∧ c.rt ≤ rateMax)

/-- What WATCH SET leaves in an entry: the reference within its subject's range, the width within its own, and never
SKY TIME with INSIDE and PAUSE (R173). -/
def WatchLegal (w : WatchDef) : Prop :=
  (1 ≤ w.width ∧ w.width ≤ halfTurn) ∧
  ¬ (w.subject = .skyTime ∧ w.condition = .inside ∧ w.action = .pause) ∧
  (w.subject = .skyTime → skyMin ≤ w.reference ∧ w.reference ≤ skyMax) ∧
  (∀ a, w.subject = .axis a → bounded a = false → 0 ≤ w.reference ∧ w.reference < turn)

/-- The law of R1, with what it rests on: legal watch references for the pins, and the entry Rt that RESUME restores. -/
def ClockLaw (s : State) : Prop :=
  ClockInRange s.clock ∧
  (∀ i : WatchNo, ∀ w, (s.watches.get i).definition = some w → WatchLegal w) ∧
  (∀ snap p, s.holdCtl = .hold snap p → -rateMax ≤ snap.entryRt ∧ snap.entryRt ≤ rateMax)

/-! ### Hold (R148, R151) -/

/-- The modes an axis may have in HOLD (R149, R151). -/
def ModeInHold : Mode → Prop
  | .parked | .held | .fault _ => True
  | .stopping next => next = .held
  | .recovering prior _ => prior = .held ∨ prior = .parked
  | .track | .move _ | .homing _ => False

/-- The modes an axis may have in NORMAL: HELD, and what leads to HELD, belong to HOLD (R149, R157). -/
def ModeInNormal : Mode → Prop
  | .held => False
  | .stopping next => next ≠ .held
  | .recovering prior _ => prior ≠ .held
  | .parked | .track | .move _ | .homing _ | .fault _ => True

/-- In HOLD both rates are 0, sky time stands at the entry T, and no axis follows, moves or homes; in NORMAL no axis is
HELD or bound for HELD (R148, R149, R151, R157). -/
def HoldLaw (s : State) : Prop :=
  match s.holdCtl with
  | .hold snap _ =>
    s.clock.r = 0 ∧ s.clock.rt = 0 ∧ s.clock.t = snap.entryT ∧ ∀ a : Axis, ModeInHold (s.axis a).mode
  | .normal _ => ∀ a : Axis, ModeInNormal (s.axis a).mode

/-! ### The grant (R183, R176) -/

/-- R183: at most two waiters, none twice, never the holder, and none while the grant is free; and no LOCAL watch entry
is enabled while the grant is free (R174, R176). -/
def GrantLaw (s : State) : Prop :=
  s.grant.queue.length ≤ 2 ∧ s.grant.queue.Nodup ∧ (∀ l, s.grant.holder = some l → l ∉ s.grant.queue) ∧
  (s.grant.holder = none → s.grant.queue = [] ∧
    ∀ i : WatchNo, ∀ w, (s.watches.get i).definition = some w → w.scope = .local_ → w.enabled = false)

/-! ### Axis channels (R90, R92, R100, R102, R104, R108, R114, R131) -/

/-- The parameters within their ranges and consistent (R92, R114). -/
def ParamsLegal (a : Axis) (q : AxisParams) : Prop :=
  (1 ≤ q.gear ∧ q.gear ≤ 4194304) ∧ (1 ≤ q.vmax ∧ q.vmax ≤ 67108864) ∧ (1 ≤ q.amax ∧ q.amax ≤ 1048576) ∧
  (1 ≤ q.homeSpeed ∧ q.homeSpeed ≤ q.vmax) ∧ (0 ≤ q.wrapLimit ∧ q.wrapLimit ≤ 8) ∧
  (0 ≤ q.tolerance ∧ q.tolerance ≤ 2147483647) ∧
  (bounded a = false → -2147483648 ≤ q.indexOffset ∧ q.indexOffset ≤ 2147483647) ∧
  (bounded a = true →
    -quarterTurn ≤ q.travelMin ∧ q.travelMin < q.travelMax ∧ q.travelMax ≤ quarterTurn ∧
    q.travelMin ≤ q.indexOffset ∧ q.indexOffset ≤ q.travelMax)

/-- The mode that an axis has or, in RECOVERING, returns to. -/
def effectiveMode : Mode → Mode
  | .recovering prior _ => modeOfPrior prior
  | m => m

/-- A mode in which the drive is disabled (R134, R138, R139). -/
def DriveOff : Mode → Prop
  | .recovering _ _ | .fault _ => True
  | .parked | .track | .move _ | .homing _ | .stopping _ | .held => False

/-- A mode in which the axis stands (R90). -/
def AtRest : Mode → Prop
  | .parked | .held | .recovering _ _ | .fault _ => True
  | .track | .move _ | .homing _ | .stopping _ => False

/-- What a mode asks of the REFERENCED flag: TRACK and MOVE need it (R108, R110, R157), HOMING and FAULT have it clear
(R119, R138, R139). -/
def ReferenceFits (referenced : Bool) : Mode → Prop
  | .track | .move _ => referenced = true
  | .homing _ | .fault _ => referenced = false
  | .parked | .stopping _ | .held | .recovering _ _ => True

/-- The homing distances are not negative (R118). -/
def DistancesFit : Mode → Prop
  | .homing h => 0 ≤ h.seekDistance ∧ 0 ≤ h.creepDistance
  | .parked | .track | .move _ | .stopping _ | .held | .recovering _ _ | .fault _ => True

/-- The laws of one axis channel. -/
def ChannelLaw (a : Axis) (c : AxisChannel) : Prop :=
  ParamsLegal a c.params ∧
  (c.driveEnabled = true ↔ ¬ DriveOff c.mode) ∧
  (AtRest c.mode → c.v = 0) ∧
  (-c.params.vmax ≤ c.v ∧ c.v ≤ c.params.vmax) ∧
  ReferenceFits c.referenced (effectiveMode c.mode) ∧
  DistancesFit (effectiveMode c.mode) ∧
  (c.lagging = true → c.mode = .track) ∧
  (c.referenced = true → ∀ lo hi, travelRange a c.params = some (lo, hi) → lo ≤ c.p ∧ c.p ≤ hi) ∧
  c.d = c.p * c.params.gear / turn ∧
  c.tripCount ≤ 3 ∧ (c.tripWindow.isSome = true ↔ 0 < c.tripCount) ∧
  (bounded a = false → c.switchLow = false ∧ c.switchHigh = false)

/-- The laws of the seventeen axis channels. -/
def AxisLaw (s : State) : Prop := ∀ a : Axis, ChannelLaw a (s.axis a)

/-! ### The ephemeris store (R67 to R70, R73) and the patch table (R56, R58) -/

/-- A write in flight: its segment is well-formed, its slot EMPTY and its sector unprotected (R70, R73). -/
def WriteLegal (x : Store) (n : SlotNo) (g : Segment) : Prop :=
  segmentWf g = true ∧ SlotMap.read x.slots n.val = .empty ∧ x.mask.get (sectorOf n) = false

/-- The fields of the store state within their bounds, and nothing in progress that R70 forbids. -/
def OpLegal (x : Store) : Prop :=
  match x.op with
  | .idle => x.deferred = false
  | .erasing _ left => left ≤ eraseTime ∧ x.deferred = false
  | .eraseSuspended _ left => left ≤ eraseTime ∧ x.deferred = false
  | .writing n g => WriteLegal x n g
  | .writingInSuspend n g sec left => WriteLegal x n g ∧ sectorOf n ≠ sec ∧ left ≤ eraseTime
  | .checking first count progress _ => first ≤ 63 ∧ first + count ≤ 63 ∧ progress ≤ count ∧ x.deferred = false
  | .saving _ _ => x.deferred = false

/-- The slots stand in their canonical form, every FILLED slot holds a well-formed segment (R35, R67), the parameter
record has its 572 bytes (R204), and the store state is lawful. -/
def StoreLaw (s : State) : Prop :=
  SlotMap.wf s.store.slots = true ∧
  (∀ n g, SlotMap.read s.store.slots n = .filled g → segmentWf g = true) ∧
  s.store.record.length = 572 ∧ OpLegal s.store

/-- Every set patch entry holds a well-formed segment (R56), and no two enabled entries name one slot (R58). -/
def PatchLaw (s : State) : Prop :=
  (∀ i : PatchNo, ∀ n g, (s.patches.get i = .disabled n g ∨ s.patches.get i = .enabled n g) → segmentWf g = true) ∧
  (∀ i j : PatchNo, ∀ n g h, s.patches.get i = .enabled n g → s.patches.get j = .enabled n h → i = j)

/-! ### Angles and the thermal monitor (R18, R32, R144) -/

/-- The ranges of R18 and R32. -/
def AngleLaw (s : State) : Prop :=
  (-quarterTurn ≤ s.ball.latitude ∧ s.ball.latitude ≤ quarterTurn) ∧
  (0 ≤ s.ball.longitude ∧ s.ball.longitude < turn) ∧ (0 ≤ s.ball.frozen ∧ s.ball.frozen < turn) ∧
  (0 ≤ s.eph.phase ∧ s.eph.phase < turn) ∧
  ∀ k : Track,
    if latitudeTrack k then -halfTurn ≤ (s.eph.tracks.get k).last ∧ (s.eph.tracks.get k).last < halfTurn
    else 0 ≤ (s.eph.tracks.get k).last ∧ (s.eph.tracks.get k).last < turn

/-- R142 to R144: TW is one of its twelve values, and before the first sample the warning is OFF and the mark clear. -/
def ThermalLaw (s : State) : Prop :=
  60 ≤ s.thermal.tw ∧ s.thermal.tw ≤ 115 ∧ s.thermal.tw % 5 = 0 ∧
  (s.thermal.latest = none → s.thermal.warning = false ∧ s.thermal.overMark = false)

/-! ### Links (R178, R179, R193, R194) -/

/-- What a receiver has collected is the beginning of a frame: its length byte is at most 250 and its count is not yet
complete (R178). -/
def CollectingFits (got : List Byte) : Prop :=
  match got with
  | [] => True
  | n :: _ => n.toNat ≤ Config.maxPayload ∧ got.length < n.toNat + 4

/-- The laws of one link: at most 4 frames and 8 events held, every held frame one that a line can carry, and no report
waiting while reporting is OFF. -/
def LinkLaw (x : LinkState) : Prop :=
  x.buffer.length ≤ Config.bufferDepth ∧ x.events.length ≤ Config.eventDepth ∧
  (∀ f ∈ x.buffer, f.payload.length ≤ Config.maxPayload) ∧
  (x.reporting = .off → x.report = none) ∧
  (∀ got, x.receiver = .collecting got → CollectingFits got)

/-- The laws of the three links. -/
def LinksLaw (s : State) : Prop := ∀ l : Link, LinkLaw (s.link l)

/-! ### The terms of the statements

What follows says a rule in the statements' own terms, with the library's sign, square root and centred remainder, so
that a statement does not repeat the definition it speaks of. -/

/-- The payload length of each request kind, in the order of R201's table. -/
def lengthTable : List (Byte × Nat) :=
  [(0x01, 8), (0x02, 8), (0x03, 8), (0x04, 8), (0x05, 1), (0x06, 1), (0x07, 29), (0x08, 1), (0x09, 1), (0x0A, 1)] ++
  [(0x10, 28), (0x11, 1), (0x12, 0), (0x13, 0), (0x14, 2), (0x15, 0), (0x16, 2), (0x17, 2)] ++
  [(0x20, 3), (0x21, 6), (0x22, 3), (0x23, 6), (0x24, 1), (0x25, 3), (0x26, 1), (0x27, 1)] ++
  [(0x30, 0), (0x31, 0), (0x32, 0), (0x33, 9), (0x38, 17), (0x39, 1), (0x3A, 1), (0x3B, 1), (0x3C, 0), (0x3D, 1)] ++
  [(0x40, 0), (0x41, 0), (0x42, 0), (0x48, 3), (0x49, 1), (0x4A, 0), (0x4B, 0)]

/-- The kinds that are grant-bound whatever their payload (R182); WATCH SET and WATCH ENABLE are so for LOCAL alone. -/
def grantBoundKinds : List Byte :=
  [0x01, 0x02, 0x03, 0x04, 0x05, 0x20, 0x21, 0x22, 0x25, 0x23, 0x15, 0x26, 0x27, 0x07, 0x08, 0x09]

/-- The kinds refused HELD in hold (R151). -/
def heldKinds : List Byte := [0x01, 0x02, 0x03, 0x20, 0x21, 0x22, 0x23, 0x25]

/-- An axis set that names at least one axis and none above 16 (R200). -/
def AxisSetForm (p : List Byte) : Prop := ∃ n : Nat, 0 < n ∧ n < 2 ^ 17 ∧ p = beBytes 3 n

/-- A well-formed segment whose fields fit their widths (R34, R35). -/
def SegmentFits (g : Segment) : Prop :=
  1 ≤ g.spanS ∧ g.spanS < 2 ^ 32 ∧ -315576000000 ≤ g.startS ∧ g.startS + g.spanS ≤ 315576000000 ∧
  0 ≤ g.c0 ∧ g.c0 < 2 ^ 32 ∧ -2 ^ 31 ≤ g.c1 ∧ g.c1 < 2 ^ 31 ∧ -2 ^ 31 ≤ g.c2 ∧ g.c2 < 2 ^ 31 ∧
  -2 ^ 31 ≤ g.c3 ∧ g.c3 < 2 ^ 31

/-- A segment covers a sky millisecond (R36). -/
def CoversAt (g : Segment) (tms : Int) : Prop := 1000 * g.startS ≤ tms ∧ tms < 1000 * (g.startS + g.spanS)

/-- Slots 0 to 1,023 are bank A's, the others bank B's (R67). -/
def SameBank (m n : Nat) : Prop := m < 1024 ↔ n < 1024

/-- A slot is unreadable: its bank is busy and it does not lie in a suspended sector (R37, R71). -/
def SlotHidden (op : StoreOp) (n : Nat) : Prop :=
  match op with
  | .idle | .eraseSuspended _ _ | .checking _ _ _ _ => False
  | .erasing sec _ => SameBank (32 * sec.val) n
  | .writing m _ => SameBank m.val n
  | .writingInSuspend m _ sec _ => SameBank m.val n ∧ n / 32 ≠ sec.val
  | .saving _ _ => 1024 ≤ n

/-- A slot is absent: it lies in a suspended sector (R37). -/
def SlotAway (op : StoreOp) (n : Nat) : Prop :=
  match op with
  | .eraseSuspended sec _ | .writingInSuspend _ _ sec _ => n / 32 = sec.val
  | .idle | .checking _ _ _ _ | .erasing _ _ | .writing _ _ | .saving _ _ => False

/-- An enabled patch entry names this slot index (R38). -/
def PatchStands (s : State) (n : Nat) : Prop := ∃ i m g, s.patches.get i = .enabled m g ∧ m.val = n

/-- The candidates of a track (R39). -/
def IsCandidate (s : State) (k : Track) (c : Candidate) : Prop :=
  (∃ i n g, s.patches.get i = .enabled n g ∧ g.track = k ∧ c = ⟨n.val, g, true⟩) ∨
  (∃ n g, SlotMap.read s.store.slots n = .filled g ∧ g.track = k ∧ ¬ SlotHidden s.store.op n ∧
    ¬ SlotAway s.store.op n ∧ ¬ PatchStands s n ∧ c = ⟨n, g, false⟩)

/-- The rounding step of R44. -/
def roundStep (x : Int) : Int := (x + 2 ^ 23) / 2 ^ 24

/-- The value of a segment at a sky millisecond it covers (R43 to R45). -/
def segmentAngle (g : Segment) (tms : Int) : Int :=
  let u := (tms - 1000 * g.startS) * 2 ^ 24 / (1000 * g.spanS)
  let a2 := g.c2 + roundStep (g.c3 * u)
  let a1 := g.c1 + roundStep (a2 * u)
  let start := if g.track.val ∈ [2, 4, 6, 8, 10, 12] then Int.bmod g.c0 (2 ^ 32) else g.c0
  let v := start + roundStep (a1 * u)
  if g.track.val ∈ [2, 4, 6, 8, 10, 12] then max (-2 ^ 31) (min v (2 ^ 31 - 1)) else v % 2 ^ 32

/-- The role target of an axis in TRACK, with the state its evaluation leaves (R21 to R24, R46, R48, R96). -/
def roleOf (s : State) (a : Axis) : State × Int :=
  if a = 0 then
    (s, if s.ball.coupled then
        (3346025510 + s.ball.longitude + (s.clock.t / 256) % 86164091 * 2 ^ 32 / 86164091) % 2 ^ 32
      else s.ball.frozen)
  else if a = 1 then (s, s.ball.latitude)
  else if a = 2 then (s, (s.clock.t / 256) % 813302467200000 * 2 ^ 32 / 813302467200000)
  else if a = 6 then (evaluatePhase s, (evaluatePhase s).eph.phase)
  else
    let k : Track := Fin.ofNat 13 (if a.val ≤ 5 then a.val - 3 else a.val - 4)
    (evaluateTrack s k, ((evaluateTrack s k).eph.tracks.get k).last)

/-- The effective vmax (R94). -/
def speedLimit (s : State) (c : AxisChannel) : Int := if s.thermal.warning then c.params.vmax / 2 else c.params.vmax

/-- Position and velocity after arrival or step with an error (R99 to R101). -/
def profileStep (amax vmax v p e : Int) : Int × Int :=
  let q : Int := (Nat.sqrt (2 * amax * |e|).toNat : Int)
  let desired := e.sign * min vmax q
  let v' := v + clamp (desired - v) (-amax) amax
  if e = 0 ∨ (v' ≠ 0 ∧ v'.sign = e.sign ∧ |e| ≤ |v'|) then (p + e, e) else (p + v', v')

/-- Position and velocity after a step toward a desired velocity, without an error (R100, R101, R120). -/
def freeStep (amax v p desired : Int) : Int × Int :=
  let v' := v + clamp (desired - v) (-amax) amax
  (p + v', v')

/-- The clamp of a REFERENCED axis to its travel (R102). -/
def limitTravel (a : Axis) (c : AxisChannel) (x : Int × Int) : Int × Int × Option Side :=
  if c.referenced then
    match travelRange a c.params with
    | some (lo, hi) => if x.1 < lo then (lo, 0, some .low) else if hi < x.1 then (hi, 0, some .high) else (x.1, x.2, none)
    | none => (x.1, x.2, none)
  else (x.1, x.2, none)

/-- SOFT LIMIT where the clamp acted (R102). -/
def sendLimit (s : State) (a : Axis) : Option Side → State
  | some side => s.send (.softLimit a side)
  | none => s

/-- An axis channel at a new position and velocity, its drive recomputed and the difference sent (R104). -/
def driven (c : AxisChannel) (p v : Int) : AxisChannel :=
  { c with p := p, v := v, d := p * c.params.gear / 2 ^ 32, burst := p * c.params.gear / 2 ^ 32 - c.d }

/-- One row of the table of R149: an axis, what is saved of it, and the axis after hold entry. -/
def EntryRow (c : AxisChannel) (sv : SavedAxis) (c' : AxisChannel) : Prop :=
  match c.mode with
  | .track => sv = ⟨some .track, none⟩ ∧ c' = { c with mode := .stopping .held, lagging := false }
  | .move x => sv = ⟨some .move, some x⟩ ∧ c' = { c with mode := .stopping .held }
  | .homing _ => sv = ⟨some .parked, none⟩ ∧ c' = { c with mode := .stopping .held, referenced := false }
  | .stopping _ => sv = ⟨some .parked, none⟩ ∧ c' = { c with mode := .stopping .held }
  | .parked => sv = ⟨some .parked, none⟩ ∧ c' = { c with mode := .held }
  | .recovering prior left =>
    sv =
      (match prior with
        | .track => ⟨some .track, none⟩
        | .move x => ⟨some .move, some x⟩
        | .parked | .homing _ | .held => ⟨some .parked, none⟩) ∧
    c' = { c with mode := .recovering .held left }
  | .fault _ => sv = ⟨none, none⟩ ∧ c' = c
  | .held => True

/-- The restored mode of a held axis (R157). -/
def RestoresTo (a : Axis) (sv : SavedAxis) (c : AxisChannel) (m : PriorMode) : Prop :=
  match c.referenced, sv.mode, sv.destination with
  | true, some .track, _ => m = .track
  | true, some .move, some x => m = .move (clampTravel a c.params x)
  | _, _, _ => m = .parked

/-- One row of the table of R157: an axis at RESUME, what was saved of it, and the axis after. An axis with no row stands as
it was: FAULT, PARKED, and RECOVERING toward PARKED, and the modes that no axis has in hold (log 16). -/
def ResumeRow (a : Axis) (sv : SavedAxis) (c c' : AxisChannel) : Prop :=
  ∀ m, RestoresTo a sv c m →
    match c.mode with
    | .held => c' = { c with mode := modeOfPrior m, v := 0, lagging := false }
    | .stopping .held =>
      c' = { c with mode := (match m with | .track => .track | .move x => .move x | _ => .stopping .parked),
                    lagging := (match m with | .track | .move _ => false | _ => c.lagging) }
    | .recovering .held left => c' = { c with mode := .recovering m left }
    | _ => c' = c

/-- The parameters of an axis as a parameter record carries them back: those its kind lacks stand at their defaults
(R92, R204; log 18). -/
def ParamsCarried (a : Axis) (q : AxisParams) : Prop :=
  ParamsLegal a q ∧
  (bounded a = true → q.wrapLimit = AxisParams.builtIn.wrapLimit) ∧
  (bounded a = false → q.travelMin = AxisParams.builtIn.travelMin ∧ q.travelMax = AxisParams.builtIn.travelMax)

/-- A parameter set within its ranges (R18, R92, R144). -/
def ParamSetLegal (ps : ParamSet) : Prop :=
  (∀ a : Axis, ParamsCarried a (ps.axes.get a)) ∧ -quarterTurn ≤ ps.latitude ∧ ps.latitude ≤ quarterTurn ∧
  0 ≤ ps.longitude ∧ ps.longitude < turn ∧ 60 ≤ ps.tw ∧ ps.tw ≤ 115 ∧ ps.tw % 5 = 0

/-- The parameters after SET AXIS PARAM writes a value, and whether it was clamped; none where the parameter or the
value does not exist for the axis (R92, R113, R115). Codes and the value's form are R200's. -/
def paramTaken (a : Axis) (q : AxisParams) (code : Nat) (x : Int) : Option (AxisParams × Bool) :=
  let fit (lo hi : Int) (write : Int → AxisParams) : Option (AxisParams × Bool) :=
    some (write (max lo (min x hi)), decide (x < lo ∨ hi < x))
  match code with
  | 0 => fit 1 4194304 fun y => { q with gear := y }
  | 1 => fit 1 67108864 fun y => { q with vmax := y, homeSpeed := min q.homeSpeed y }
  | 2 => fit 1 1048576 fun y => { q with amax := y }
  | 3 => fit 1 q.vmax fun y => { q with homeSpeed := y }
  | 4 => if x = 0 then some ({ q with homeDirection := .positive }, false)
         else if x = 1 then some ({ q with homeDirection := .negative }, false) else none
  | 5 => if bounded a then fit (-2 ^ 30) (2 ^ 30) fun y => { q with indexOffset := y }
         else fit (-2 ^ 31) (2 ^ 31 - 1) fun y => { q with indexOffset := y }
  | 6 => if bounded a then fit (-2 ^ 30) (2 ^ 30) fun y => { q with travelMin := y } else none
  | 7 => if bounded a then fit (-2 ^ 30) (2 ^ 30) fun y => { q with travelMax := y } else none
  | 8 => if bounded a then none else fit 0 8 fun y => { q with wrapLimit := y }
  | 9 => fit 0 2147483647 fun y => { q with tolerance := y }
  | 10 => if x = 0 then some ({ q with tripFilter := .us0 }, false)
          else if x = 20 then some ({ q with tripFilter := .us20 }, false)
          else if x = 40 then some ({ q with tripFilter := .us40 }, false)
          else if x = 80 then some ({ q with tripFilter := .us80 }, false) else none
  | 11 => if x = 0 then some ({ q with recovery := .manual }, false)
          else if x = 1 then some ({ q with recovery := .retry }, false) else none
  | _ => none

/-- The parameter exists for the kind of the axis, and an enumerated value is one of its listed ones (R92, R113, R200). -/
def ParamExists (a : Axis) (code : Nat) (x : Int) : Prop :=
  code ∈ [0, 1, 2, 3, 5, 9] ∨ (code ∈ [6, 7] ∧ bounded a = true) ∨ (code = 8 ∧ bounded a = false) ∨
  (code ∈ [4, 11] ∧ (x = 0 ∨ x = 1)) ∨ (code = 10 ∧ (x = 0 ∨ x = 20 ∨ x = 40 ∨ x = 80))

/-- The conditions of R114. -/
def ParamsConsistent (a : Axis) (q : AxisParams) : Prop :=
  bounded a = true → q.travelMin < q.travelMax ∧ q.travelMin ≤ q.indexOffset ∧ q.indexOffset ≤ q.travelMax

/-- A value as a four-byte parameter carries it: signed for the index offset and the travel limits, unsigned for the
others (R92, R200). -/
def ParamCarried (code : Nat) (x : Int) : Prop :=
  if code ∈ [5, 6, 7] then -2 ^ 31 ≤ x ∧ x < 2 ^ 31 else 0 ≤ x ∧ x < 2 ^ 32

/-- The form that each grant-bound kind asks of its payload: its length, its numbers within their bounds, its codes listed,
its segment well-formed (R7, R25, R35, R59, R107, R110, R113, R119, R141, R144, R200, R201). -/
def FormPasses (k : Byte) (p : List Byte) : Prop :=
  (k = 0x15 → p = []) ∧ (k = 0x27 → p.length = 1) ∧ (k ∈ [0x01, 0x02, 0x03, 0x04] → p.length = 8) ∧
  (k = 0x05 → p = [0] ∨ p = [1]) ∧ (k ∈ [0x20, 0x22, 0x25] → AxisSetForm p) ∧
  (k = 0x21 → ∃ (a dir : Byte) (v : List Byte), a.toNat ≤ 16 ∧ v.length = 4 ∧ dir.toNat ≤ 2 ∧ p = a :: (v ++ [dir])) ∧
  (k = 0x23 → ∃ (a : Axis) (code : Nat) (x : Int), code < 256 ∧ ParamCarried code x ∧ ParamExists a code x ∧
    p = beBytes 1 a.val ++ beBytes 1 code ++ beBytes 4 x) ∧
  (k = 0x26 → ∃ a : Byte, a.toNat ≤ 16 ∧ p = [a]) ∧ (k ∈ [0x08, 0x09] → ∃ n : Byte, n.toNat ≤ 7 ∧ p = [n]) ∧
  (k = 0x07 → ∃ (n : PatchNo) (slot : SlotNo) (g : Segment), SegmentFits g ∧
    p = beBytes 1 n.val ++ beBytes 2 slot.val ++ segmentBytes g)

/-! ### Drive protection: trips (R132 to R138) -/

/-- A filter width in microseconds (R92, R132). -/
def filterMicros : TripFilter → Nat
  | .us0 => 0
  | .us20 => 20
  | .us40 => 40
  | .us80 => 80

/-- A trip counted: the window starts at the first of a count (R134). -/
def counted (c : AxisChannel) : AxisChannel :=
  { c with tripCount := min (c.tripCount + 1) 3, tripWindow := if c.tripCount = 0 then some 1000 else c.tripWindow }

/-- The axis waits for its retry (R134, R135). -/
def waits (s : State) (a : Axis) (prior : PriorMode) (c : AxisChannel) : State :=
  s.setAxis a { c with mode := .recovering prior 10, lagging := false, v := 0, driveEnabled := false }

/-- The axis faults with cause TRIP: AXIS FAULT to every link, then the hold cause (R138). -/
def tripFaults (s : State) (a : Axis) (c : AxisChannel) : State :=
  handCause
    ((s.setAxis a { c with mode := .fault .trip, referenced := false, lagging := false, v := 0, driveEnabled := false }).send
      (.axisFault a .trip)) (.axisFault a .trip)

/-! ### Watches (R165 to R172) -/

/-- A crossing or entry of a step of sky time or of a bounded axis from `x` to `y` (R167, R169). -/
def StepMeets (w : WatchDef) (x y : Int) : Prop :=
  match w.condition with
  | .up => x < w.reference ∧ w.reference ≤ y
  | .down => y ≤ w.reference ∧ w.reference < x
  | .either => (x < w.reference ∧ w.reference ≤ y) ∨ (y ≤ w.reference ∧ w.reference < x)
  | .inside =>
    ¬ (w.reference ≤ x ∧ x < w.reference + w.width) ∧ (w.reference ≤ y ∧ y < w.reference + w.width)

/-- A crossing or entry of a step of a rotary axis from position `x` to `y`, taken round the turn (R168, R169). -/
def TurnMeets (w : WatchDef) (x y : Int) : Prop :=
  let ahead := (w.reference - x % 2 ^ 32) % 2 ^ 32
  let behind := (x % 2 ^ 32 - w.reference) % 2 ^ 32
  match w.condition with
  | .up => x < y ∧ 0 < ahead ∧ ahead ≤ y - x
  | .down => y < x ∧ 0 < behind ∧ behind ≤ x - y
  | .either => (x < y ∧ 0 < ahead ∧ ahead ≤ y - x) ∨ (y < x ∧ 0 < behind ∧ behind ≤ x - y)
  | .inside => ¬ (x - w.reference) % 2 ^ 32 < w.width ∧ (y - w.reference) % 2 ^ 32 < w.width

/-- A change of an axis's position met by an entry: on P of a bounded axis, round the turn on a rotary one (R166). -/
def AxisMeets (a : Axis) (w : WatchDef) (x y : Int) : Prop := if bounded a then StepMeets w x y else TurnMeets w x y

/-- A jump of sky time met by an entry: INSIDE alone is tested (R11, R165, R169). -/
def JumpMeets (w : WatchDef) (x y : Int) : Prop := w.condition = .inside ∧ StepMeets w x y

/-- The entry fires: it is enabled, of the subject, and met (R170). -/
def Fires (s : State) (subject : WatchSubject) (meets : WatchDef → Prop) (i : WatchNo) (w : WatchDef) : Prop :=
  (s.watches.get i).definition = some w ∧ w.enabled = true ∧ w.subject = subject ∧ meets w

/-- The entry is met, but not enabled (R170). -/
def Stirs (s : State) (subject : WatchSubject) (meets : WatchDef → Prop) (i : WatchNo) : Prop :=
  ∃ w, (s.watches.get i).definition = some w ∧ w.enabled = false ∧ w.subject = subject ∧ meets w

/-- What the watch unit makes of a change (R170 to R172): `s` is the state with the change made and its own events sent,
`meets` says of an entry whether the change meets it, `clock` is the clock once the PAUSE actions are taken, and `t` the
state after. HIT where an entry fires, MET where one not enabled is met while another fires; WATCH for each that fires, in
ascending order; then the clock; then the cause WATCH of the lowest-numbered HOLD entry that fires. -/
def WatchOutcome (s : State) (subject : WatchSubject) (meets : WatchDef → Prop) (clock : Clock) (t : State) : Prop :=
  ∃ (fired : List WatchNo) (watches : Vector Watch 4),
    fired.Pairwise (· < ·) ∧ (∀ i, i ∈ fired ↔ ∃ w, Fires s subject meets i w) ∧
    (∀ i : WatchNo, (watches.get i).definition = (s.watches.get i).definition ∧
      ((watches.get i).hit = true ↔ (s.watches.get i).hit = true ∨ i ∈ fired) ∧
      ((watches.get i).met = true ↔ (s.watches.get i).met = true ∨ (Stirs s subject meets i ∧ fired ≠ []))) ∧
    let action (i : WatchNo) : WatchAction := ((s.watches.get i).definition.map (·.action)).getD .report
    let told := fired.foldl (fun u i => u.send (.watch i subject (action i))) (s.setWatches watches)
    let holds (i : WatchNo) : Prop := ∃ w, Fires s subject meets i w ∧ w.action = .hold
    ((∀ i, ¬ holds i) → t = told.setClock clock) ∧
    (∀ i, holds i → (∀ j, holds j → i ≤ j) → t = handCause (told.setClock clock) (.watch i))

/-- A PAUSE entry of this reference fires (R171, R172). -/
def PausesAt (s : State) (subject : WatchSubject) (meets : WatchDef → Prop) (r : Int) : Prop :=
  ∃ i w, Fires s subject meets i w ∧ w.action = .pause ∧ w.reference = r

/-- Clock and SKY LIMIT of a clock step, before the watch unit sees it (R3 to R5). -/
def stepped (s : State) : State :=
  let c := s.clock
  let r := c.r + (c.rt - c.r).sign * min |c.rt - c.r| (max 256 (|c.r| / 64))
  if skyMax < c.t + r then (s.setClock { t := skyMax, r := 0, rt := 0 }).send (.skyLimit .high)
  else if c.t + r < skyMin then (s.setClock { t := skyMin, r := 0, rt := 0 }).send (.skyLimit .low)
  else s.setClock { t := c.t + r, r := r, rt := c.rt }

/-- The characters of a frame taken one after another by a link's receiver, none with a framing fault (R178). -/
def hear (l : Link) (chars : List Byte) (s : State) : State :=
  chars.foldl (fun s ch => s.setLink l ((s.link l).character ch false)) s

/-! ### All of them -/

/-- A lawful state: every law at once. -/
def Lawful (s : State) : Prop :=
  ClockLaw s ∧ HoldLaw s ∧ GrantLaw s ∧ AxisLaw s ∧ StoreLaw s ∧ PatchLaw s ∧ AngleLaw s ∧ ThermalLaw s ∧ LinksLaw s

end Sys2Proof.Safety
end

