-- ==== Sys2Proof/Certificates/Slice0/Obligations.lean ====
section
/-! DEFINITION. The statements for the provers. A request's statement speaks of every state in which its link can take it
(`Ready`: the frame stands first in the buffer, or by the model's choice of log 3 the buffer is empty); the state on the
right of the equation is written out, so that it is also the frame: every block, link and axis that it does not name is as
before. The fields burst (log 9), switchLow and switchHigh (log 4) and sending (log 8) are the model's record of what the
part sent and saw; no rule of the manual gives them and no meaning reads them. The field tripLine is the filter of R132 as
far as the commands have told of the line (log 4). -/

open Sys2Proof Sys2Proof.Machine Sys2Proof.Safety

/-! ### Steps and takings -/

/-- A step takes the command at the front of the queue and runs it on the state with the queue's rest. -/
def Obligations.StepRunsFrontCommand : Prop :=
  ∀ (c : Instr) (s : State), step (s.push c) = exec c s

/-- The model's choice (log 2): with no command waiting a step lets one real millisecond pass. Sky time, the axes' motion,
the links' queues and everything else stand; only a running remaining time falls, and none falls below 0: of the store that
of ERASING alone, of a guard that of RUNNING, of the reports that of an interval other than OFF. -/
def Obligations.EmptyQueueLetsTimersFall : Prop :=
  ∀ s : State, s.pending = [] →
    ∃ t, step s = .next t ∧
      t.clock = s.clock ∧ t.ball = s.ball ∧ t.eph = s.eph ∧ t.patches = s.patches ∧ t.thermal = s.thermal ∧
      t.holdCtl = s.holdCtl ∧ t.watches = s.watches ∧ t.grant = s.grant ∧ t.pending = [] ∧
      (∃ op, t.store = { s.store with op := op } ∧
        (∀ sec left, s.store.op = .erasing sec left → op = .erasing sec (left - 1)) ∧
        ((∀ sec left, s.store.op ≠ .erasing sec left) → op = s.store.op)) ∧
      (∀ a : Axis, ∃ m w, t.axis a = { s.axis a with mode := m, tripWindow := w } ∧
        (∀ prior left, (s.axis a).mode = .recovering prior left → m = .recovering prior (left - 1)) ∧
        ((∀ prior left, (s.axis a).mode ≠ .recovering prior left) → m = (s.axis a).mode) ∧
        w = (s.axis a).tripWindow.map fun left => left - 1) ∧
      (∀ l : Link, ∃ g r, t.link l = { s.link l with guard := g, reporting := r } ∧
        (∀ i act left, (s.link l).guard = .running i act left → g = .running i act (left - 1)) ∧
        ((∀ i act left, (s.link l).guard ≠ .running i act left) → g = (s.link l).guard) ∧
        (∀ i left, (s.link l).reporting = .every i left → r = .every i (left - 1)) ∧
        ((s.link l).reporting = .off → r = .off))

/-- A taking is one event: the oldest frame leaves the buffer, one reply of the request's kind stands in the reply slot,
and of the other links the input buffer and the reply slot stand; their event queues may take the events of the taking
(R180, R193). A link that cannot take the frame yet leaves everything as it is (log 3). -/
def Obligations.EveryTakingGivesOneReply : Prop :=
  ∀ (i : Instr) (s : State) (l : Link) (k : Byte) (p : List Byte), i.wf = true → i.frame? = some (l, k, p) →
    (Ready s l k p → ∃ t status data, exec i s = .next t ∧
      (t.link l).reply = some { request := k, status := status, data := data } ∧
      (t.link l).buffer = (if k = 0x4B ∧ p = [] then [] else (s.link l).buffer.tail) ∧
      ∀ m, m ≠ l → (t.link m).reply = (s.link m).reply ∧ (t.link m).buffer = (s.link m).buffer) ∧
    (¬ Ready s l k p → exec i s = .next s)

/-- A request of another length than its kind's, and a frame whose kind is no request kind, are answered MALFORMED and
change nothing (R180, R200, R201). -/
def Obligations.MalformedFramesChangeNothing : Prop :=
  (∀ (l : Link) (lines : Lines) (p : List Byte) (s : State), ∀ x ∈ lengthTable, p.length ≠ x.2 → Ready s l x.1 p →
    exec (requestOf l lines x.1 p) s = .next (replied (s.dropFrame l) l x.1 .malformed .none)) ∧
  (∀ (l : Link) (k : Byte) (p : List Byte) (s : State), (∀ x ∈ lengthTable, k ≠ x.1) → Ready s l k p →
    exec (.nonRequestKind l k p) s = .next (replied (s.dropFrame l) l k .malformed (.kindReceived k)))

/-- A payload of the right length with a field that its request's form checks refuse is answered MALFORMED and changes
nothing, from any link and before the grant, hold and every other check: numbers above the last one, axis sets that name no
axis or one above 16, codes that are not listed, and malformed segments (R35, R51, R59, R63, R69, R73, R75, R86, R107,
R110, R116, R119, R141, R160, R173, R174, R189, R200). That a PROTECT of sector 63 with an argument neither ON nor OFF is
MALFORMED and not PROTECTED is the model's reading (log 26). -/
def Obligations.MalformedFieldsChangeNothing : Prop :=
  ∀ (s : State) (l : Link) (lines : Lines) (n : Nat) (b : Byte) (r : List Byte) (m : PatchNo) (slot : SlotNo) (g : Segment),
    let refused (k : Byte) (p : List Byte) : Prop := Ready s l k p →
      exec (requestOf l lines k p) s = .next (replied (s.dropFrame l) l k .malformed .none)
    (13 ≤ b.toNat → refused 0x06 [b] ∧ (r.length = 25 → refused 0x10 (beBytes 2 slot.val ++ b :: r) ∧
      refused 0x07 (beBytes 1 m.val ++ beBytes 2 slot.val ++ b :: r))) ∧
    (8 ≤ b.toNat → refused 0x08 [b] ∧ refused 0x09 [b] ∧ refused 0x0A [b] ∧ (r.length = 28 → refused 0x07 (b :: r))) ∧
    (2016 ≤ n → n < 2 ^ 16 → refused 0x16 (beBytes 2 n) ∧ (r.length = 26 → refused 0x10 (beBytes 2 n ++ r) ∧
      refused 0x07 (beBytes 1 m.val ++ beBytes 2 n ++ r))) ∧
    (64 ≤ b.toNat → refused 0x11 [b] ∧ (r.length = 1 → refused 0x17 (b :: r))) ∧
    (2 ≤ b.toNat → (r.length = 1 → refused 0x17 (r ++ [b])) ∧ (r.length = 8 → refused 0x33 (b :: r)) ∧
      (r.length = 2 → refused 0x48 (r ++ [b]))) ∧
    (17 ≤ b.toNat → refused 0x24 [b] ∧ refused 0x26 [b] ∧ (r.length = 5 → refused 0x21 (b :: r) ∧ refused 0x23 (b :: r))) ∧
    (n = 0 ∨ 2 ^ 17 ≤ n → n < 2 ^ 24 → refused 0x20 (beBytes 3 n) ∧ refused 0x22 (beBytes 3 n) ∧ refused 0x25 (beBytes 3 n)) ∧
    (3 ≤ b.toNat → (r.length = 5 → refused 0x21 (r ++ [b])) ∧ (r.length = 16 → refused 0x38 (r ++ [b]))) ∧
    (4 ≤ b.toNat → refused 0x39 [b] ∧ refused 0x3A [b] ∧ refused 0x3B [b] ∧ (r.length = 16 → refused 0x38 (b :: r))) ∧
    (n ∉ [50, 100, 200, 500, 1000, 2000, 5000, 10000] → n < 2 ^ 16 → refused 0x48 (beBytes 2 n ++ [b])) ∧
    (0 ≤ g.spanS → g.spanS < 2 ^ 32 → -2 ^ 39 ≤ g.startS → g.startS < 2 ^ 39 →
      (g.spanS = 0 ∨ g.startS < -315576000000 ∨ 315576000000 < g.startS + g.spanS) →
      refused 0x10 (beBytes 2 slot.val ++ segmentBytes g) ∧
      refused 0x07 (beBytes 1 m.val ++ beBytes 2 slot.val ++ segmentBytes g))

/-- A grant-bound request whose payload fails its form check is MALFORMED, whoever sends it and in every hold state. One
that passes it, from a link that does not hold the grant, is NOT_GRANTED; a motion or clock request that passes it, from the
holder in hold, is HELD. None of them changes anything (R151, R182). -/
def Obligations.RefusalsChangeNothing : Prop :=
  ∀ (s : State) (l : Link) (lines : Lines) (k : Byte) (p : List Byte), k ∈ grantBoundKinds → Ready s l k p →
    let refused (status : Status) : Prop :=
      exec (requestOf l lines k p) s = .next (replied (s.dropFrame l) l k status .none)
    (¬ FormPasses k p → refused .malformed) ∧
    (FormPasses k p → s.grant.holder ≠ some l → refused .notGranted) ∧
    (FormPasses k p → k ∈ heldKinds → s.grant.holder = some l → s.inHold = true → refused .held)

/-! ### The sky clock -/

/-- A clock step with no watch on sky time: the ramp, the advance, and at a limit the saturation (R3, R4, R5). -/
def Obligations.ClockStepRampsAndAdvances : Prop :=
  ∀ s : State, Unwatched s .skyTime →
    let d := s.clock.rt - s.clock.r
    let r := s.clock.r + d.sign * min |d| (max 256 (|s.clock.r| / 64))
    let t1 := s.clock.t + r
    (skyMin ≤ t1 → t1 ≤ skyMax → exec .clockStep s = .next (s.setClock { t := t1, r := r, rt := s.clock.rt })) ∧
    (skyMax < t1 → exec .clockStep s = .next ((s.setClock { t := skyMax, r := 0, rt := 0 }).send (.skyLimit .high))) ∧
    (t1 < skyMin → exec .clockStep s = .next ((s.setClock { t := skyMin, r := 0, rt := 0 }).send (.skyLimit .low)))

/-- The ramp lands on the target within |Rt - R| / 256 clock steps, and on its way never passes it (R3). -/
def Obligations.RampLandsOnTarget : Prop :=
  (∀ (r rt : Int) (n : Nat), |rt - r| ≤ 256 * n → (fun x => ramp x rt)^[n] r = rt) ∧
  (∀ r rt : Int, r ≤ rt → r ≤ ramp r rt ∧ ramp r rt ≤ rt) ∧ (∀ r rt : Int, rt ≤ r → rt ≤ ramp r rt ∧ ramp r rt ≤ r)

/-- SET RATE sets the target rate, clamped with its sign kept, and leaves R (R7, R8). SET TIME and NUDGE from the holder in
NORMAL move T by a jump to the value, clamped to the range; the rates stand, and no crossing watch is tested (R9 to R11). -/
def Obligations.ClockRequestsSetRateAndTime : Prop :=
  (∀ (s : State) (l : Link) (rate : Int), -2 ^ 63 ≤ rate → rate < 2 ^ 63 → Ready s l 0x01 (beBytes 8 rate) →
      let q := s.dropFrame l
      exec (.setRate l (beBytes 8 rate)) s = .next
        (if s.grant.holder ≠ some l then replied q l 0x01 .notGranted .none
         else if s.inHold then replied q l 0x01 .held .none
         else if rateMax < rate then replied (q.setClock { s.clock with rt := rateMax }) l 0x01 .clamped .none
         else if rate < -rateMax then replied (q.setClock { s.clock with rt := -rateMax }) l 0x01 .clamped .none
         else replied (q.setClock { s.clock with rt := rate }) l 0x01 .ok .none)) ∧
  (∀ (s : State) (l : Link) (x : Int), -2 ^ 63 ≤ x → x < 2 ^ 63 → s.grant.holder = some l → s.inHold = false →
      NoInsideOnSky s →
      let q := s.dropFrame l
      let outcome (k : Byte) (t1 : Int) : State :=
        if skyMax < t1 then replied (q.setClock { s.clock with t := skyMax }) l k .clamped .none
        else if t1 < skyMin then replied (q.setClock { s.clock with t := skyMin }) l k .clamped .none
        else replied (q.setClock { s.clock with t := t1 }) l k .ok .none
      (Ready s l 0x02 (beBytes 8 x) → exec (.setTime l (beBytes 8 x)) s = .next (outcome 0x02 (256 * x))) ∧
      (Ready s l 0x03 (beBytes 8 x) → exec (.nudge l (beBytes 8 x)) s = .next (outcome 0x03 (s.clock.t + x))))

/-! ### Star ball geometry -/

/-- SET SITE: the latitude clamped to a quarter turn, the longitude taken mod 2^32, in NORMAL and in HOLD (R25, R26).
COUPLE OFF from ON freezes the diurnal angle of that instant, and from OFF changes nothing; COUPLE ON sets the coupling and
leaves the frozen angle; an argument that is neither is MALFORMED (R21, R28, R29). -/
def Obligations.SiteAndCouplingRequests : Prop :=
  (∀ (s : State) (l : Link) (lat lon : Int), -2 ^ 31 ≤ lat → lat < 2 ^ 31 →
      Ready s l 0x04 (beBytes 4 lat ++ beBytes 4 lon) →
      let q := s.dropFrame l
      exec (.setSite l (beBytes 4 lat ++ beBytes 4 lon)) s = .next
        (if s.grant.holder ≠ some l then replied q l 0x04 .notGranted .none
         else replied
          (q.setBall { s.ball with latitude := max (-2 ^ 30) (min lat (2 ^ 30)), longitude := lon % 2 ^ 32 }) l 0x04
          (if lat < -2 ^ 30 ∨ 2 ^ 30 < lat then .clamped else .ok) .none)) ∧
  (∀ (s : State) (l : Link),
      let q := s.dropFrame l
      (s.grant.holder = some l → Ready s l 0x05 [0] → exec (.coupleOff l [0]) s = .next
        (replied
          (if s.ball.coupled then
            q.setBall { s.ball with
              coupled := false
              frozen := (3346025510 + s.ball.longitude + (s.clock.t / 256) % 86164091 * 2 ^ 32 / 86164091) % 2 ^ 32 }
           else q) l 0x05 .ok .none)) ∧
      (s.grant.holder = some l → Ready s l 0x05 [1] → exec (.coupleOn l [1]) s = .next
        (replied (q.setBall { s.ball with coupled := true }) l 0x05 .ok .none)) ∧
      (∀ b : Byte, b ≠ 0 → b ≠ 1 → Ready s l 0x05 [b] →
        exec (.coupleOff l [b]) s = .next (replied q l 0x05 .malformed .none)))

/-! ### The ephemeris evaluator -/

/-- The candidate that wins a track: one that covers, of the lowest rank; there is one whenever a candidate covers
(R36 to R40). -/
def Obligations.LowestCoveringCandidateWins : Prop :=
  ∀ (s : State) (k : Track) (tms : Int), SlotMap.wf s.store.slots = true →
    (∀ c, winner s k tms = some c → IsCandidate s k c ∧ CoversAt c.segment tms ∧
      ∀ d, IsCandidate s k d → CoversAt d.segment tms → c.rank ≤ d.rank) ∧
    ((∃ c, IsCandidate s k c ∧ CoversAt c.segment tms) → ∃ c, winner s k tms = some c)

/-- What an evaluation writes and sends: the winner's value and slot, or the kept value with STALE or UNCOVERED, and SOURCE
CHANGE where the source state differs (R40, R41, R43 to R45, R50). The phase value is the difference of tracks 1 and 0,
evaluated in that order, when both are found, and is kept otherwise (R48). -/
def Obligations.EvaluationWritesRecordAndPhase : Prop :=
  (∀ (s : State) (k : Track),
      let tms := s.clock.t / 256
      let old := s.eph.tracks.get k
      let wrote (r : TrackRecord) : State :=
        let s1 := s.setEph { s.eph with tracks := s.eph.tracks.set k.val r k.isLt }
        if Source.state old.source = Source.state r.source then s1 else s1.send (.sourceChange k (Source.state r.source))
      (∀ c n, winner s k tms = some c → IsCandidate s k c → CoversAt c.segment tms → SegmentFits c.segment →
        n = Fin.ofNat 2016 c.rank →
        evaluateTrack s k = wrote
          { last := segmentAngle c.segment tms, source := if c.patched then .patched n else .covered n }) ∧
      (winner s k tms = none → (∃ n < 2016, SlotHidden s.store.op n ∧ ¬ PatchStands s n) →
        evaluateTrack s k = wrote { last := old.last, source := .stale }) ∧
      (winner s k tms = none → (∀ n < 2016, SlotHidden s.store.op n → PatchStands s n) →
        evaluateTrack s k = wrote { last := old.last, source := .uncovered })) ∧
  (∀ s : State,
      let s1 := evaluateTrack (evaluateTrack s 1) 0
      let found (k : Track) : Prop :=
        ∃ n, (s1.eph.tracks.get k).source = .covered n ∨ (s1.eph.tracks.get k).source = .patched n
      (found 1 → found 0 → evaluatePhase s = s1.setEph
        { s1.eph with phase := ((s1.eph.tracks.get 1).last - (s1.eph.tracks.get 0).last) % 2 ^ 32 }) ∧
      (¬ (found 1 ∧ found 0) → evaluatePhase s = s1) ∧
      (s1.eph.tracks.get 1) = ((evaluateTrack s 1).eph.tracks.get 1))

/-! ### The patch table -/

/-- PATCH SET: an ENABLED entry refuses, any other takes the contents and is DISABLED (R59, R60). PATCH ENABLE and PATCH
DISABLE from the holder, in every condition of the entry (R61, R62). -/
def Obligations.PatchEntriesSetAndEnabled : Prop :=
  (∀ (s : State) (l : Link) (n : PatchNo) (slot : SlotNo) (g : Segment), SegmentFits g →
      let p := beBytes 1 n.val ++ beBytes 2 slot.val ++ segmentBytes g
      Ready s l 0x07 p →
      let q := s.dropFrame l
      (s.grant.holder ≠ some l → exec (.patchSet l p) s = .next (replied q l 0x07 .notGranted .none)) ∧
      (s.grant.holder = some l → ∀ m h, s.patches.get n = .enabled m h →
        exec (.patchSet l p) s = .next (replied q l 0x07 .enabled .none)) ∧
      (s.grant.holder = some l → (∀ m h, s.patches.get n ≠ .enabled m h) →
        exec (.patchSet l p) s = .next
          (replied (q.setPatches (s.patches.set n.val (.disabled slot g) n.isLt)) l 0x07 .ok .none))) ∧
  (∀ (s : State) (l : Link) (n : PatchNo), s.grant.holder = some l →
      let q := s.dropFrame l
      (Ready s l 0x08 (beBytes 1 n.val) →
        (s.patches.get n = .unset → exec (.patchEnable l (beBytes 1 n.val)) s = .next (replied q l 0x08 .empty .none)) ∧
        (∀ m g, s.patches.get n = .enabled m g →
          exec (.patchEnable l (beBytes 1 n.val)) s = .next (replied q l 0x08 .ok .none)) ∧
        (∀ m g, s.patches.get n = .disabled m g →
          ((∃ j h, s.patches.get j = .enabled m h) →
            exec (.patchEnable l (beBytes 1 n.val)) s = .next (replied q l 0x08 .duplicate .none)) ∧
          ((∀ j h, s.patches.get j ≠ .enabled m h) →
            exec (.patchEnable l (beBytes 1 n.val)) s = .next
              (replied (q.setPatches (s.patches.set n.val (.enabled m g) n.isLt)) l 0x08 .ok .none)))) ∧
      (Ready s l 0x09 (beBytes 1 n.val) →
        (∀ m g, s.patches.get n = .enabled m g → exec (.patchDisable l (beBytes 1 n.val)) s = .next
          (replied (q.setPatches (s.patches.set n.val (.disabled m g) n.isLt)) l 0x09 .ok .none)) ∧
        ((∀ m g, s.patches.get n ≠ .enabled m g) →
          exec (.patchDisable l (beBytes 1 n.val)) s = .next (replied q l 0x09 .ok .none))))

/-! ### The ephemeris store -/

/-- SEGMENT WRITE: BUSY, PROTECTED, NOT_EMPTY, else accepted from IDLE or beside a suspended erase; the slot itself is not
changed yet (R73). A write completes: its slot FILLED or SPOILED, every other slot as it was, the store back in the state it
left, a deferred protection applied, and STORE DONE (R69, R74). -/
def Obligations.SegmentWriteAcceptedAndCompleted : Prop :=
  (∀ (s : State) (l : Link) (n : SlotNo) (g : Segment), SegmentFits g →
      let p := beBytes 2 n.val ++ segmentBytes g
      Ready s l 0x10 p →
      let q := s.dropFrame l
      let sec : SectorNo := sectorOf n
      let rest (op : StoreOp) : State :=
        if s.store.mask.get sec then replied q l 0x10 .protected_ .none
        else if SlotMap.read s.store.slots n.val ≠ .empty then replied q l 0x10 .notEmpty .none
        else replied (q.setStore { s.store with op := op }) l 0x10 .ok .none
      sec.val = n.val / 32 ∧
      (s.store.op = .idle → exec (.segmentWrite l p) s = .next (rest (.writing n g))) ∧
      (∀ e left, s.store.op = .eraseSuspended e left → e ≠ sec →
        exec (.segmentWrite l p) s = .next (rest (.writingInSuspend n g e left))) ∧
      (∀ left, s.store.op = .eraseSuspended sec left →
        exec (.segmentWrite l p) s = .next (replied q l 0x10 .busy .none)) ∧
      (s.store.op ≠ .idle → (∀ e left, s.store.op ≠ .eraseSuspended e left) →
        exec (.segmentWrite l p) s = .next (replied q l 0x10 .busy .none))) ∧
  (∀ (s : State) (n : SlotNo) (g : Segment) (result : CellResult), SlotMap.wf s.store.slots = true →
      let done (op : StoreOp) : Prop :=
        ∃ slots mask, exec (.writeCompletion result) s = .next
            ((s.setStore { s.store with slots := slots, mask := mask, deferred := false, op := op }).send
              (.storeDone (.write n) result)) ∧
          (∀ k, SlotMap.read slots k =
            if k = n.val then (match result with | .ok => .filled g | .failed => .spoiled)
            else SlotMap.read s.store.slots k) ∧
          (∀ sec : SectorNo, mask.get sec = (s.store.mask.get sec || (s.store.deferred && decide (sec.val = n.val / 32))))
      (s.store.op = .writing n g → done .idle) ∧
      (∀ e left, s.store.op = .writingInSuspend n g e left → done (.eraseSuspended e left)))

/-- The life of an erase: SECTOR ERASE accepted or refused, ERASE SUSPEND, ERASE RESUME, and the completion that empties
or spoils the 32 slots of the sector and no other, once the remaining time is 0 (R75 to R77, R79). Before that there is no
completion, and a command for one changes nothing (log 1). -/
def Obligations.EraseRunsThroughSuspension : Prop :=
  ∀ (s : State) (l : Link),
    let q := s.dropFrame l
    (∀ b : Byte, 63 < b.toNat → Ready s l 0x11 [b] →
      exec (.sectorErase l [b]) s = .next (replied q l 0x11 .malformed .none)) ∧
    (∀ n : Fin 64, Ready s l 0x11 (beBytes 1 n.val) →
      (n.val = 63 → exec (.sectorErase l (beBytes 1 n.val)) s = .next (replied q l 0x11 .protected_ .none)) ∧
      (∀ sec : SectorNo, sec.val = n.val → exec (.sectorErase l (beBytes 1 n.val)) s = .next
        (if s.store.mask.get sec then replied q l 0x11 .protected_ .none
         else if s.store.op ≠ .idle then replied q l 0x11 .busy .none
         else replied (q.setStore { s.store with op := .erasing sec 150 }) l 0x11 .ok .none))) ∧
    (Ready s l 0x12 [] →
      (∀ sec left, s.store.op = .erasing sec left → exec (.eraseSuspend l []) s = .next
        (replied (q.setStore { s.store with op := .eraseSuspended sec left }) l 0x12 .ok .none)) ∧
      ((∀ sec left, s.store.op ≠ .erasing sec left) →
        exec (.eraseSuspend l []) s = .next (replied q l 0x12 .noOperation .none))) ∧
    (Ready s l 0x13 [] →
      (∀ sec left, s.store.op = .eraseSuspended sec left → exec (.eraseResume l []) s = .next
        (replied (q.setStore { s.store with op := .erasing sec left }) l 0x13 .ok .none)) ∧
      (∀ n g sec left, s.store.op = .writingInSuspend n g sec left →
        exec (.eraseResume l []) s = .next (replied q l 0x13 .busy .none)) ∧
      ((∀ sec left, s.store.op ≠ .eraseSuspended sec left) →
        (∀ n g sec left, s.store.op ≠ .writingInSuspend n g sec left) →
        exec (.eraseResume l []) s = .next (replied q l 0x13 .noOperation .none))) ∧
    (∀ sec left result, s.store.op = .erasing sec (left + 1) → exec (.eraseCompletion result) s = .next s) ∧
    (∀ sec result, s.store.op = .erasing sec 0 → SlotMap.wf s.store.slots = true →
      ∃ slots, exec (.eraseCompletion result) s = .next
          ((s.setStore { s.store with slots := slots, op := .idle }).send (.storeDone (.erase sec) result)) ∧
        ∀ k, SlotMap.read slots k =
          if k / 32 = sec.val then (match result with | .ok => .empty | .failed => .spoiled)
          else SlotMap.read s.store.slots k)

/-- SECTOR CHECK clamps its run and starts at 0xFFFF; each sector covered adds its bytes, and the last one ends the
check with STORE DONE and the CRC (R81, R82, R88). The bytes of sector 63 are the record's as they stand; those of another
sector are for each of its 32 slots the state byte and, of a FILLED slot, its record in the layout of R202 (R82). -/
def Obligations.SectorCheckCoversRun : Prop :=
  ∀ (s : State) (l : Link),
    let q := s.dropFrame l
    (∀ first count : Nat, first < 256 → count < 256 → Ready s l 0x14 (beBytes 1 first ++ beBytes 1 count) →
      exec (.sectorCheck l (beBytes 1 first ++ beBytes 1 count)) s = .next
        (if s.store.op ≠ .idle then replied q l 0x14 .busy .none
         else replied
          (q.setStore { s.store with op := .checking (min first 63) (min count (63 - min first 63)) 0 0xFFFF#16 }) l 0x14
          (if 63 < first ∨ 63 < min first 63 + count then .clamped else .ok) .none)) ∧
    (∀ first count progress crc, s.store.op = .checking first count progress crc →
      let crc' := crcFeed crc (sectorBytes s.store (first + progress))
      (progress < count → exec .checkSectorCovered s = .next
        (s.setStore { s.store with op := .checking first count (progress + 1) crc' })) ∧
      (count ≤ progress → exec .checkSectorCovered s = .next
        ((s.setStore { s.store with op := .idle }).send (.storeDone (.check first count crc') .ok)))) ∧
    sectorBytes s.store 63 = s.store.record ∧
    (∀ sector, sector < 63 → sectorBytes s.store sector = (List.range 32).flatMap fun position =>
      match SlotMap.read s.store.slots (32 * sector + position) with
      | .empty => [0x00]
      | .filled g => 0x01 :: (beBytes 1 g.track.val ++ beBytes 5 g.startS ++ beBytes 4 g.spanS ++ beBytes 4 g.c0 ++
          beBytes 4 g.c1 ++ beBytes 4 g.c2 ++ beBytes 4 g.c3)
      | .spoiled => [0x02])

/-- A whole check reports the CRC of the run's bytes taken as one sequence, and changes nothing but the store state and
the events sent (R82). -/
def Obligations.CheckReportsCrcOfRun : Prop :=
  ∀ (s : State) (first count : Nat), s.store.op = .checking first count 0 0xFFFF#16 → s.pending = [] →
    Host.Core.run Sys2Proof.core (count + 1) { s with pending := List.replicate (count + 1) .checkSectorCovered } =
      .next ((s.setStore { s.store with op := .idle }).send
        (.storeDone (.check first count
          (crcOf ((List.range' first (count + 1)).flatMap fun n => sectorBytes s.store n))) .ok))

/-- SAVE PARAMETERS takes a copy of the parameters as they stand; a good erase phase enters the write phase, and a good
write phase leaves the record of that copy with a matching check and clears PARAMETERS DEFAULTED; a failed phase leaves
572 bytes of 0xFF (R68, R83, R84). Between the phases the record reads 0xFF too (log 12). -/
def Obligations.SaveWritesTheCopy : Prop :=
  ∀ (s : State) (l : Link),
    let q := s.dropFrame l
    let blank := List.replicate 572 (0xFF : Byte)
    (s.grant.holder = some l → Ready s l 0x15 [] → ∃ copy : ParamSet,
      exec (.saveParameters l []) s = .next
        (if s.store.op ≠ .idle then replied q l 0x15 .busy .none
         else replied (q.setStore { s.store with op := .saving .erase copy }) l 0x15 .ok .none) ∧
      (∀ a, copy.axes.get a = (s.axis a).params) ∧ copy.latitude = s.ball.latitude ∧
      copy.longitude = s.ball.longitude ∧ copy.tw = s.thermal.tw) ∧
    (∀ copy, s.store.op = .saving .erase copy →
      exec (.saveErasePhaseEnd .ok) s = .next (s.setStore { s.store with record := blank, op := .saving .write copy }) ∧
      exec (.saveErasePhaseEnd .failed) s = .next
        ((s.setStore { s.store with record := blank, op := .idle }).send (.storeDone .save .failed))) ∧
    (∀ copy, s.store.op = .saving .write copy →
      exec (.saveWritePhaseEnd .ok) s = .next
        ((s.setStore { s.store with record := paramRecord copy, op := .idle, defaulted := false }).send
          (.storeDone .save .ok)) ∧
      exec (.saveWritePhaseEnd .failed) s = .next
        ((s.setStore { s.store with record := blank, op := .idle }).send (.storeDone .save .failed)))

/-- READ SEGMENT gives the slot as the store holds it, BUSY where its bank is busy or its erase is suspended; PROTECT
changes one flag, and is deferred while a write into the sector is in flight (R69, R86). -/
def Obligations.ReadSegmentAndProtect : Prop :=
  ∀ (s : State) (l : Link),
    let q := s.dropFrame l
    (∀ n : SlotNo, Ready s l 0x16 (beBytes 2 n.val) →
      ((SlotHidden s.store.op n.val ∨ SlotAway s.store.op n.val) →
        exec (.readSegment l (beBytes 2 n.val)) s = .next (replied q l 0x16 .busy .none)) ∧
      (¬ SlotHidden s.store.op n.val → ¬ SlotAway s.store.op n.val →
        exec (.readSegment l (beBytes 2 n.val)) s = .next
          (replied q l 0x16 .ok (.slot n (SlotMap.read s.store.slots n.val))))) ∧
    (∀ on : Bool, Ready s l 0x17 [63, boolCode on] →
      exec (.protect l [63, boolCode on]) s = .next (replied q l 0x17 .protected_ .none)) ∧
    (∀ (sec : SectorNo) (on : Bool), Ready s l 0x17 (beBytes 1 sec.val ++ [boolCode on]) →
      let inFlight : Prop := ∃ n g, n.val / 32 = sec.val ∧
        (s.store.op = .writing n g ∨ ∃ e left, s.store.op = .writingInSuspend n g e left)
      (¬ inFlight → exec (.protect l (beBytes 1 sec.val ++ [boolCode on])) s = .next
        (replied (q.setStore { s.store with mask := s.store.mask.set sec.val on sec.isLt }) l 0x17 .ok .none)) ∧
      (inFlight → on = true → exec (.protect l (beBytes 1 sec.val ++ [boolCode on])) s = .next
        (replied (q.setStore { s.store with deferred := true }) l 0x17 .ok .none)) ∧
      (inFlight → on = false → exec (.protect l (beBytes 1 sec.val ++ [boolCode on])) s = .next
        (replied (q.setStore
          { s.store with deferred := false, mask := s.store.mask.set sec.val false sec.isLt }) l 0x17 .ok .none)))

/-- A parameter record read back at start-up is the parameter set it was made from (R68, R85, R204); the parameters that the
kind of an axis lacks are supposed at their built-in value (log 18). A segment record read back is the segment it was made
from (R34, R35, R202). -/
def Obligations.RecordRoundTrips : Prop :=
  (∀ ps : ParamSet, ParamSetLegal ps → (paramRecord ps).length = 572 ∧ loadParams (paramRecord ps) = some ps) ∧
  (∀ g : Segment, SegmentFits g → (segmentBytes g).length = 26 ∧ readSegmentRecord (segmentBytes g) = some g)

/-! ### Axis channels -/

/-- PROFILE UPDATE in TRACK: the role target, the shorter way round or the way inside the window, the profile, the
clamp to the travel, the lag test and the drive (R96 to R104). -/
def Obligations.UpdateInTrack : Prop :=
  ∀ (s : State) (a : Axis), Unwatched s (.axis a) → (s.axis a).mode = .track →
    let c := s.axis a
    let s1 := (roleOf s a).1
    let x := (roleOf s a).2
    let short := Int.bmod (x - c.p) (2 ^ 32)
    let window := c.params.wrapLimit * 2 ^ 32
    let e :=
      if bounded a then clamp x c.params.travelMin c.params.travelMax - c.p
      else if 0 < c.params.wrapLimit ∧ (c.p + short < -window ∨ window < c.p + short) then short - short.sign * 2 ^ 32
      else short
    let w := limitTravel a c (profileStep c.params.amax (speedLimit s c) c.v c.p e)
    let s2 := sendLimit s1 a w.2.2
    let s3 := if c.params.tolerance < |e| ∧ c.lagging = false then s2.send (.lagging a) else s2
    exec (.profileUpdate a) s =
      .next (s3.setAxis a { driven c w.1 w.2.1 with lagging := decide (c.params.tolerance < |e|) })

/-- PROFILE UPDATE in MOVE: toward the destination, and PARKED once it stands on it with v = 0. Of an axis that stands,
waits or stops: in PARKED and HELD it arrives with v = 0, in RECOVERING and FAULT nothing moves and no steps are sent, in
STOPPING v falls toward 0 by at most amax and the next mode follows at 0 (R90, R95 to R97, R99 to R102, R104, R105). -/
def Obligations.UpdateInMoveAndAtRest : Prop :=
  ∀ (s : State) (a : Axis), Unwatched s (.axis a) →
    let c := s.axis a
    (∀ x, c.mode = .move x →
      let w := limitTravel a c (profileStep c.params.amax (speedLimit s c) c.v c.p (x - c.p))
      let c' := driven c w.1 w.2.1
      exec (.profileUpdate a) s = .next
        ((sendLimit s a w.2.2).setAxis a (if w.1 = x ∧ w.2.1 = 0 then { c' with mode := .parked } else c'))) ∧
    (let w := limitTravel a c (c.p, 0)
     (c.mode = .parked ∨ c.mode = .held) →
        exec (.profileUpdate a) s = .next ((sendLimit s a w.2.2).setAxis a (driven c w.1 0))) ∧
    (((∃ prior left, c.mode = .recovering prior left) ∨ ∃ cause, c.mode = .fault cause) →
      exec (.profileUpdate a) s = .next (s.setAxis a { c with burst := 0 })) ∧
    (∀ next, c.mode = .stopping next →
      let w := limitTravel a c (freeStep c.params.amax c.v c.p 0)
      let c' := driven c w.1 w.2.1
      exec (.profileUpdate a) s = .next ((sendLimit s a w.2.2).setAxis a
        (if w.2.1 = 0 then { c' with mode := (match next with | .parked => .parked | .held => .held) } else c')))

/-- PROFILE UPDATE in HOMING, phase by phase: the velocities of R120, the seek limit of R122, the end of BACKOFF of R123,
the creep distance of R124, and the end of SETTLE with REFERENCED or a homing fault of R126 and R127. With an effective vmax
of 0 the axis stays in its phase (R120); that this holds past the seek limit too, and while the axis still slows, is the
reading of log 27. -/
def Obligations.UpdateInHoming : Prop :=
  ∀ (s : State) (a : Axis) (h : HomingRecord), Unwatched s (.axis a) → (s.axis a).mode = .homing h →
    let c := s.axis a
    let q := c.params
    let dir : Int := match q.homeDirection with | .positive => 1 | .negative => -1
    let creep := -dir * max 1 (q.homeSpeed / 8)
    let lim := speedLimit s c
    let w (desired : Int) : Int × Int := freeStep q.amax c.v c.p (clamp desired (-lim) lim)
    let moved (desired : Int) : AxisChannel := driven c (w desired).1 (w desired).2
    let gone (desired : Int) : Int := |(w desired).1 - c.p|
    let answers (t : State) : Prop := exec (.profileUpdate a) s = .next t
    let stays (desired : Int) (h' : HomingRecord) : Prop := answers (s.setAxis a { moved desired with mode := .homing h' })
    let faults (cause : FaultCause) (c' : AxisChannel) : Prop :=
      answers ((s.send (.axisFault a cause)).setAxis a
        { c' with mode := .fault cause, referenced := false, v := 0, driveEnabled := false })
    (h.phase = .seek →
      let far := h.seekDistance + gone (dir * q.homeSpeed)
      let passed : Prop := if bounded a then 5 * (q.travelMax - q.travelMin) < 4 * far else 5368709120 < far
      ((¬ passed ∨ lim = 0) → stays (dir * q.homeSpeed) { h with seekDistance := far }) ∧
      (passed → lim ≠ 0 → faults .homeTimeout (moved (dir * q.homeSpeed)))) ∧
    (h.phase = .backoff →
      (((w 0).2 ≠ 0 ∨ lim = 0) → stays 0 h) ∧
      ((w 0).2 = 0 → lim ≠ 0 → stays 0 { h with phase := .creep, creepDistance := 0 })) ∧
    (h.phase = .creep → stays creep { h with creepDistance := h.creepDistance + gone creep }) ∧
    (h.phase = .settle →
      (((w 0).2 ≠ 0 ∨ lim = 0) → stays 0 h) ∧
      ((w 0).2 = 0 → lim ≠ 0 →
        ((∀ lo hi, travelRange a q = some (lo, hi) → lo ≤ (w 0).1 ∧ (w 0).1 ≤ hi) →
          answers ((s.send (.referenced a)).setAxis a { moved 0 with mode := .parked, referenced := true })) ∧
        ((∃ lo hi, travelRange a q = some (lo, hi) ∧ ((w 0).1 < lo ∨ hi < (w 0).1)) →
          faults .homeRange (moved 0))))

/-- PROFILE UPDATE of a watched axis, in every mode: what the update does without watches, and then what the watch unit
makes of its change of position, on P of a bounded axis and round the turn on a rotary one; a PAUSE that fires stops the
clock where it stands (R13, R105, R166 to R172). -/
def Obligations.UpdateOverWatchedAxis : Prop :=
  ∀ (s : State) (a : Axis),
    let unwatched := s.setWatches (Vector.replicate 4 { definition := none, hit := false, met := false })
    ∃ u t, exec (.profileUpdate a) unwatched = .next u ∧ exec (.profileUpdate a) s = .next t ∧
      let moved := u.setWatches s.watches
      let meets (w : WatchDef) : Prop := AxisMeets a w (s.axis a).p (u.axis a).p
      ((∃ r, PausesAt moved (.axis a) meets r) → WatchOutcome moved (.axis a) meets { u.clock with r := 0, rt := 0 } t) ∧
      ((∀ r, ¬ PausesAt moved (.axis a) meets r) → WatchOutcome moved (.axis a) meets u.clock t)

/-- INDEX EDGE: it ends SEEK, redefines the position in CREEP once the blanking distance is travelled, and is ignored
everywhere else (R121, R124, R125, R128). That it acts with an effective vmax of 0 too is the reading of log 27. -/
def Obligations.IndexEdgeByPhase : Prop :=
  ∀ (s : State) (a : Axis),
    let c := s.axis a
    (∀ h, c.mode = .homing h → h.phase = .seek →
      exec (.indexEdge a) s = .next (s.setAxis a { c with mode := .homing { h with phase := .backoff } })) ∧
    (∀ h, c.mode = .homing h → h.phase = .creep → 2 ^ 24 ≤ h.creepDistance →
      exec (.indexEdge a) s = .next (s.setAxis a
        { c with
          mode := .homing { h with phase := .settle }
          p := c.params.indexOffset
          d := c.params.indexOffset * c.params.gear / 2 ^ 32 })) ∧
    ((∀ h, c.mode = .homing h → h.phase = .backoff ∨ h.phase = .settle ∨ (h.phase = .creep ∧ h.creepDistance < 2 ^ 24)) →
      exec (.indexEdge a) s = .next s)

/-- TRACK on an axis set: carried out on every axis when all pass; else refused with the first axis that fails and its
status, FAULTED, UNREFERENCED or BUSY (R108, R109). -/
def Obligations.TrackAllOrNone : Prop :=
  ∀ (s : State) (l : Link) (n : Nat), 0 < n → n < 2 ^ 17 → s.grant.holder = some l → s.inHold = false →
    Ready s l 0x20 (beBytes 3 n) →
    let q := s.dropFrame l
    let mayTrack (c : AxisChannel) : Prop :=
      c.referenced = true ∧
        (c.mode = .parked ∨ c.mode = .track ∨ (∃ x, c.mode = .move x) ∨ ∃ next, c.mode = .stopping next)
    ((∀ a : Axis, n.testBit a.val = true → mayTrack (s.axis a)) → ∃ axes,
      exec (.track l (beBytes 3 n)) s = .next (replied (q.setAxes axes) l 0x20 .ok .none) ∧
      ∀ a : Axis, axes.get a =
        if n.testBit a.val then
          (if (s.axis a).mode = .track then s.axis a else { s.axis a with mode := .track, lagging := false })
        else s.axis a) ∧
    (∀ a : Axis, n.testBit a.val = true → (∀ b : Axis, b < a → n.testBit b.val = true → mayTrack (s.axis b)) →
      ((∃ cause, (s.axis a).mode = .fault cause) →
        exec (.track l (beBytes 3 n)) s = .next (replied q l 0x20 .faulted (.axisNumber a))) ∧
      ((∀ cause, (s.axis a).mode ≠ .fault cause) → (s.axis a).referenced = false →
        exec (.track l (beBytes 3 n)) s = .next (replied q l 0x20 .unreferenced (.axisNumber a))) ∧
      ((∀ cause, (s.axis a).mode ≠ .fault cause) → (s.axis a).referenced = true → ¬ mayTrack (s.axis a) →
        exec (.track l (beBytes 3 n)) s = .next (replied q l 0x20 .busy (.axisNumber a))))

/-- MOVE from the holder in NORMAL: refused FAULTED, UNREFERENCED or BUSY by the axis's mode and flag, in that order. On an
axis that may move: the unwrapped destination on the side the direction asks for, clamped to the travel of a bounded axis
and to the window of a rotary one with W > 0; v is kept (R110, R111). -/
def Obligations.MoveTakesDestination : Prop :=
  ∀ (s : State) (l : Link) (a : Axis), s.grant.holder = some l → s.inHold = false →
    let q := s.dropFrame l
    let c := s.axis a
    let mayMove : Prop := c.mode = .parked ∨ c.mode = .track ∨ (∃ x, c.mode = .move x) ∨ ∃ next, c.mode = .stopping next
    (∀ (value : List Byte) (dir : Byte), value.length = 4 → dir.toNat ≤ 2 →
      let p := beBytes 1 a.val ++ value ++ [dir]
      let refused (status : Status) : Prop := exec (.move l p) s = .next (replied q l 0x21 status .none)
      Ready s l 0x21 p →
      ((∃ cause, c.mode = .fault cause) → refused .faulted) ∧
      ((∀ cause, c.mode ≠ .fault cause) → c.referenced = false → refused .unreferenced) ∧
      ((∀ cause, c.mode ≠ .fault cause) → c.referenced = true → ¬ mayMove → refused .busy)) ∧
    (mayMove → c.referenced = true →
      let within (lo hi x : Int) : Int := if x < lo then lo else if hi < x then hi else x
      let window := c.params.wrapLimit * 2 ^ 32
      let taken (x : Int) : Int :=
        if bounded a then within c.params.travelMin c.params.travelMax x
        else if 0 < c.params.wrapLimit then within (-window) window x else x
      let goes (p : List Byte) (x : Int) : Prop :=
        exec (.move l p) s = .next
          (replied (q.setAxis a { c with mode := .move (taken x), lagging := false }) l 0x21
            (if taken x = x then .ok else .clamped) .none)
      (bounded a = true → ∀ (x : Int) (dir : Fin 3), -2 ^ 31 ≤ x → x < 2 ^ 31 →
        let p := beBytes 1 a.val ++ beBytes 4 x ++ beBytes 1 dir.val
        Ready s l 0x21 p → goes p x) ∧
      (bounded a = false → ∀ value x : Int, 0 ≤ value → value < 2 ^ 32 → (x - value) % 2 ^ 32 = 0 →
        let p (dir : Int) := beBytes 1 a.val ++ beBytes 4 value ++ beBytes 1 dir
        (c.p - 2 ^ 31 ≤ x → x < c.p + 2 ^ 31 → Ready s l 0x21 (p 0) → goes (p 0) x) ∧
        (c.p ≤ x → x < c.p + 2 ^ 32 → Ready s l 0x21 (p 1) → goes (p 1) x) ∧
        (c.p - 2 ^ 32 < x → x ≤ c.p → Ready s l 0x21 (p 2) → goes (p 2) x)))

/-- PARK treats each axis of the set by its mode; HOME starts a search on each axis of a set of PARKED axes, and refuses
the whole set at the first that is not (R112, R119). -/
def Obligations.ParkAndHomeBySet : Prop :=
  ∀ (s : State) (l : Link) (n : Nat), 0 < n → n < 2 ^ 17 → s.grant.holder = some l → s.inHold = false →
    let q := s.dropFrame l
    (Ready s l 0x22 (beBytes 3 n) → ∃ axes,
      exec (.park l (beBytes 3 n)) s = .next (replied (q.setAxes axes) l 0x22 .ok .none) ∧
      ∀ a : Axis,
        let c := s.axis a
        (n.testBit a.val = false → axes.get a = c) ∧
        (n.testBit a.val = true →
          ((c.mode = .parked ∨ ∃ cause, c.mode = .fault cause) → axes.get a = c) ∧
          ((c.mode = .track ∨ (∃ x, c.mode = .move x) ∨ ∃ h, c.mode = .homing h) →
            axes.get a = { c with mode := .stopping .parked, lagging := false }) ∧
          (∀ next, c.mode = .stopping next → axes.get a = { c with mode := .stopping .parked }) ∧
          (∀ prior left, c.mode = .recovering prior left → axes.get a = { c with mode := .recovering .parked left }))) ∧
    (Ready s l 0x25 (beBytes 3 n) →
      ((∀ a : Axis, n.testBit a.val = true → (s.axis a).mode = .parked) → ∃ axes,
        exec (.home l (beBytes 3 n)) s = .next (replied (q.setAxes axes) l 0x25 .ok .none) ∧
        ∀ a : Axis, axes.get a =
          if n.testBit a.val then
            { s.axis a with
              mode := .homing { phase := .seek, seekDistance := 0, creepDistance := 0 }, referenced := false }
          else s.axis a) ∧
      (∀ a : Axis, n.testBit a.val = true → (s.axis a).mode ≠ .parked →
        (∀ b : Axis, b < a → n.testBit b.val = true → (s.axis b).mode = .parked) →
        exec (.home l (beBytes 3 n)) s = .next (replied q l 0x25 .notParked (.axisNumber a))))

/-- SET AXIS PARAM, every parameter: MALFORMED where it does not exist, NOT_PARKED, the clamp, INCONSISTENT, and the
effects of a change on REFERENCED and D (R113 to R115). -/
def Obligations.SetAxisParamByParameter : Prop :=
  ∀ (s : State) (l : Link) (a : Axis) (code : Nat) (x : Int), code < 256 → ParamCarried code x →
    ParamsLegal a (s.axis a).params → s.grant.holder = some l → s.inHold = false →
    let p := beBytes 1 a.val ++ beBytes 1 code ++ beBytes 4 x
    Ready s l 0x23 p →
    let q := s.dropFrame l
    let c := s.axis a
    let settable : Prop := c.mode = .parked ∨ ∃ cause, c.mode = .fault cause
    (paramTaken a c.params code x = none →
      exec (.setAxisParam l p) s = .next (replied q l 0x23 .malformed .none)) ∧
    (∀ taken clamped, paramTaken a c.params code x = some (taken, clamped) →
      (¬ settable → exec (.setAxisParam l p) s = .next (replied q l 0x23 .notParked .none)) ∧
      (settable → ¬ ParamsConsistent a taken →
        exec (.setAxisParam l p) s = .next (replied q l 0x23 .inconsistent .none)) ∧
      (settable → ParamsConsistent a taken →
        exec (.setAxisParam l p) s = .next
          (replied (q.setAxis a
            { c with
              params := taken
              referenced := c.referenced && (decide (taken = c.params) || !decide (code ∈ [0, 5, 6, 7, 8]))
              d := if taken.gear = c.params.gear then c.d else c.p * taken.gear / 2 ^ 32 }) l 0x23
            (if clamped then .clamped else .ok) .none)))

/-- The reads of a track, a patch entry, an axis, the snapshot and the watch entries carry them as they stand and change
nothing, from any link, in NORMAL and in HOLD (R51, R63, R116, R159, R175). -/
def Obligations.ReadsCarryWhatStands : Prop :=
  ∀ (s : State) (l : Link),
    let q := s.dropFrame l
    (∀ k : Track, Ready s l 0x06 (beBytes 1 k.val) → exec (.readTrack l (beBytes 1 k.val)) s =
      .next (replied q l 0x06 .ok (.track k (s.eph.tracks.get k)))) ∧
    (∀ n : PatchNo, Ready s l 0x0A (beBytes 1 n.val) → exec (.patchRead l (beBytes 1 n.val)) s =
      .next (replied q l 0x0A .ok (.patch n (s.patches.get n)))) ∧
    (∀ a : Axis, Ready s l 0x24 (beBytes 1 a.val) → ∃ reading, exec (.readAxis l (beBytes 1 a.val)) s =
        .next (replied q l 0x24 .ok (.axis a reading)) ∧
      reading.mode = (s.axis a).mode.name ∧ reading.referenced = (s.axis a).referenced ∧
      reading.lagging = (s.axis a).lagging ∧ reading.p = (s.axis a).p ∧ reading.v = (s.axis a).v ∧
      reading.d = (s.axis a).d ∧ reading.params = (s.axis a).params ∧
      reading.effectiveVmax = speedLimit s (s.axis a) ∧
      (∀ x, reading.destination = some x ↔ (s.axis a).mode = .move x) ∧
      (∀ n, reading.next = some n ↔ (s.axis a).mode = .stopping n) ∧
      (∀ k, reading.cause = some k ↔ (s.axis a).mode = .fault k) ∧
      (∀ f, reading.phase = some f ↔ ∃ h, (s.axis a).mode = .homing h ∧ h.phase = f)) ∧
    (Ready s l 0x32 [] → exec (.snapshotRead l []) s = .next (replied q l 0x32 .ok (.snapshot s.holdCtl))) ∧
    (Ready s l 0x3C [] → exec (.watchStatus l []) s = .next (replied q l 0x3C .ok (.watches s.watches)))

/-! ### Drive protection -/

/-- A trip line seen active qualifies once it has stayed active for the filter width that was in force when it became
active, and once in one activation; before that only the width is kept (R132; the activation and its microseconds are what
the command tells, and the width in force is read at that command: log 4 and 24). A qualified trip by mode and recovery mode: ignored in FAULT; RECOVERING at the first and
second of a count under RETRY or in RECOVERING; else FAULT, AXIS FAULT and the hold cause (R133 to R135, R138). -/
def Obligations.QualifiedTripByMode : Prop :=
  ∀ (s : State) (a : Axis) (anew : Bool) (us : Nat), (s.axis a).tripCount ≤ 3 →
    let c0 := s.axis a
    let answers (t : State) : Prop := exec (.qualifiedTrip { axis := a, anew := anew, us := us }) s = .next t
    (anew = true → us < filterMicros c0.params.tripFilter →
      answers (s.setAxis a { c0 with tripLine := .filtering c0.params.tripFilter })) ∧
    (anew = false → ∀ width, c0.tripLine = .filtering width → us < filterMicros width → answers s) ∧
    (anew = false → (c0.tripLine = .inactive ∨ c0.tripLine = .qualified) → answers s) ∧
    (((anew = true ∧ filterMicros c0.params.tripFilter ≤ us) ∨
        (anew = false ∧ ∃ width, c0.tripLine = .filtering width ∧ filterMicros width ≤ us)) →
      let c := { c0 with tripLine := .qualified }
      let takes (prior : PriorMode) : Prop :=
        (c.params.recovery = .manual → answers (tripFaults s a { c with burst := 0 })) ∧
        (c.params.recovery = .retry → c.tripCount < 2 → answers (waits s a prior { counted c with burst := 0 })) ∧
        (c.params.recovery = .retry → 2 ≤ c.tripCount → answers (tripFaults s a { counted c with burst := 0 }))
      (∀ cause, c.mode = .fault cause → answers (s.setAxis a c)) ∧
      (∀ prior left, c.mode = .recovering prior left →
        (c.tripCount < 2 → answers (waits s a prior (counted c))) ∧
        (2 ≤ c.tripCount → answers (tripFaults s a (counted c)))) ∧
      (c.mode = .parked → takes .parked) ∧ (c.mode = .track → takes .track) ∧ (c.mode = .held → takes .held) ∧
      (∀ x, c.mode = .move x → takes (.move x)) ∧ (∀ h, c.mode = .homing h → takes (.homing h)) ∧
      (c.mode = .stopping .parked → takes .parked) ∧ (c.mode = .stopping .held → takes .held))

/-- Retry expiry with the line inactive returns the axis to its prior mode with its drive enabled; with the line active
it is a trip in RECOVERING. The trip window's expiry clears the count and touches nothing else (R135 to R137). With time
left there is no expiry, so that a trip taken first, which restarts the retry timer, leaves a command for one without effect
(R140; log 1). -/
def Obligations.RetryAndWindowExpiry : Prop :=
  ∀ (s : State) (a : Axis), (s.axis a).tripCount ≤ 3 →
    let c := s.axis a
    (∀ prior, c.mode = .recovering prior 0 →
      let back (m : Mode) : Prop :=
        exec (.retryExpiry a false) s = .next
          (s.setAxis a { c with mode := m, tripLine := .inactive, lagging := false, v := 0, driveEnabled := true })
      let again := { c with tripLine := if c.tripLine = .inactive then .filtering c.params.tripFilter else c.tripLine }
      (prior = .parked → back .parked) ∧ (prior = .track → back .track) ∧ (prior = .held → back .held) ∧
      (∀ x, prior = .move x → back (.move x)) ∧ (∀ h, prior = .homing h → back (.homing h)) ∧
      (c.tripCount < 2 → exec (.retryExpiry a true) s = .next (waits s a prior (counted again))) ∧
      (2 ≤ c.tripCount → exec (.retryExpiry a true) s = .next (tripFaults s a (counted again)))) ∧
    (∀ prior left line, c.mode = .recovering prior (left + 1) → exec (.retryExpiry a line) s = .next s) ∧
    (c.tripWindow = some 0 →
      exec (.tripWindowExpiry a) s = .next (s.setAxis a { c with tripCount := 0, tripWindow := none })) ∧
    (∀ left, c.tripWindow = some (left + 1) → exec (.tripWindowExpiry a) s = .next s)

/-- An end switch faults its bounded axis in every mode, sends AXIS FAULT and hands over the hold cause; one active at
the end of device reset is taken at that moment (R139). -/
def Obligations.EndSwitchFaultsAxis : Prop :=
  (∀ (s : State) (a : Axis) (side : Side), bounded a = true →
    let c := s.axis a
    exec (.endSwitch a side) s = .next
      (handCause
        ((s.setAxis a
          { c with
            mode := .fault .endSwitch, referenced := false, lagging := false, v := 0, burst := 0, driveEnabled := false
            switchLow := c.switchLow || decide (side = .low), switchHigh := c.switchHigh || decide (side = .high) }).send
          (.axisFault a .endSwitch)) (.axisFault a .endSwitch))) ∧
  (∀ (s t : State) (trips : List Axis) (switches : List (Axis × Side)) (a : Axis) (side : Side),
    exec (.deviceReset trips switches) s = .next t →
    exec (.deviceReset trips (switches ++ [(a, side)])) s = exec (.endSwitch a side) t)

/-- A thermal sample: the warning with its hysteresis of 5, the over-temperature mark with its one hold cause, and the
order of the events. In HOLD that cause is latched when none is pending, and dropped otherwise (R142, R143, R152). -/
def Obligations.ThermalSampleWarnsAndHolds : Prop :=
  ∀ (s : State) (x : Int),
    let th := s.thermal
    let warn := if th.warning then decide (th.tw - 5 < x) else decide (th.tw ≤ x)
    let s1 := s.setThermal { th with warning := warn, latest := some x, overMark := decide (th.tw + 15 ≤ x) }
    let s2 :=
      if warn = th.warning then s1
      else if warn then s1.send (.thermal .warningOn x) else s1.send (.thermal .warningOff x)
    ((x < th.tw + 15 ∨ th.overMark = true) → exec (.thermalSample x) s = .next s2) ∧
    (th.tw + 15 ≤ x → th.overMark = false →
      let s3 := s2.send (.thermal .over x)
      (∀ snap, s.holdCtl = .normal snap → exec (.thermalSample x) s = .next (enterHold s3 .thermal)) ∧
      (∀ snap, s.holdCtl = .hold snap none →
        exec (.thermalSample x) s = .next (s3.setHold (.hold snap (some .thermal)))) ∧
      (∀ snap p, s.holdCtl = .hold snap (some p) → exec (.thermalSample x) s = .next s3))

/-- CLEAR FAULT from the holder, in NORMAL and in HOLD: NO_OPERATION, ACTIVE by the levels the command carries (log 4), else
PARKED with its drive enabled and the count cleared (R141). SET THERMAL LIMIT takes one of the twelve values, clamped to 60 to 115 and rounded down to a multiple
of 5 (R144); the byte is read as signed (log 13). -/
def Obligations.ClearFaultAndThermalLimit : Prop :=
  (∀ (s : State) (l : Link) (a : Axis) (lines : Lines), s.grant.holder = some l → Ready s l 0x26 (beBytes 1 a.val) →
      let q := s.dropFrame l
      let c := s.axis a
      let active : Prop := lines.trip = true ∨ (bounded a = true ∧ (lines.low = true ∨ lines.high = true))
      ((∀ cause, c.mode ≠ .fault cause) →
        exec (.clearFault l (beBytes 1 a.val) lines) s = .next (replied q l 0x26 .noOperation .none)) ∧
      (∀ cause, c.mode = .fault cause →
        (active → exec (.clearFault l (beBytes 1 a.val) lines) s = .next (replied q l 0x26 .active .none)) ∧
        (¬ active → exec (.clearFault l (beBytes 1 a.val) lines) s = .next
          (replied (q.setAxis a
            { c with
              mode := .parked, v := 0, driveEnabled := true, tripCount := 0, tripWindow := none
              tripLine := .inactive, switchLow := false, switchHigh := false }) l 0x26 .ok .none)))) ∧
  (∀ (s : State) (l : Link) (x y : Int), -128 ≤ x → x ≤ 127 → s.grant.holder = some l →
      Ready s l 0x27 (beBytes 1 x) → y % 5 = 0 →
      ((x < 60 ∧ y = 60) ∨ (115 < x ∧ y = 115) ∨ (60 ≤ x ∧ x ≤ 115 ∧ y ≤ x ∧ x < y + 5)) →
      exec (.setThermalLimit l (beBytes 1 x)) s = .next
        (replied ((s.dropFrame l).setThermal { s.thermal with tw := y }) l 0x27 (if y = x then .ok else .clamped) .none))

/-! ### Hold and resume -/

/-- HOLD in NORMAL enters hold: the snapshot filled, the clock stopped, each axis by its row of the table, HOLD ENTERED to
every link; in HOLD it is answered OK and changes nothing (R148 to R150, R153). -/
def Obligations.HoldEntersOnce : Prop :=
  ∀ (s : State) (l : Link), Ready s l 0x30 [] →
    let q := s.dropFrame l
    (s.inHold = true → exec (.hold l []) s = .next (replied q l 0x30 .ok .none)) ∧
    (s.inHold = false → (∀ a : Axis, (s.axis a).mode ≠ .held) → ∃ snap axes,
      exec (.hold l []) s = .next
        (replied ((((q.setHold (.hold snap none)).setClock { s.clock with r := 0, rt := 0 }).setAxes axes).send
          (.holdEntered (.request l) s.clock.t)) l 0x30 .ok .none) ∧
      snap.cause = .request l ∧ snap.entryT = s.clock.t ∧ snap.entryR = s.clock.r ∧ snap.entryRt = s.clock.rt ∧
      (snap.restoreRate = true ↔ s.clock.r ≠ 0 ∨ s.clock.rt ≠ 0) ∧ snap.resumeTime = s.clock.t ∧
      ∀ a : Axis, EntryRow (s.axis a) (snap.saved.get a) (axes.get a))

/-- RESUME is refused NOT_GRANTED, NO_OPERATION and THERMAL in that order; with a pending cause it takes that cause up
and stays in HOLD. SNAPSHOT EDIT sets the two editable fields in HOLD alone (R143, R154, R155, R160). -/
def Obligations.ResumeChecksAndPendingCause : Prop :=
  ∀ (s : State) (l : Link),
    let q := s.dropFrame l
    let hot : Prop := ∃ x, s.thermal.latest = some x ∧ s.thermal.tw + 10 ≤ x
    (Ready s l 0x31 [] →
      (s.grant.holder ≠ some l → l ≠ .c → exec (.resume l []) s = .next (replied q l 0x31 .notGranted .none)) ∧
      ((s.grant.holder = some l ∨ l = .c) →
        (s.inHold = false → exec (.resume l []) s = .next (replied q l 0x31 .noOperation .none)) ∧
        (s.inHold = true → hot → exec (.resume l []) s = .next (replied q l 0x31 .thermal .none)) ∧
        (∀ snap cause, s.holdCtl = .hold snap (some cause) → ¬ hot → exec (.resume l []) s = .next
          (replied ((q.setHold (.hold { snap with cause := cause } none)).send (.holdEntered cause snap.entryT)) l 0x31
            .held .none)))) ∧
    (∀ (flag : Bool) (time : Int), -2 ^ 63 ≤ time → time < 2 ^ 63 → Ready s l 0x33 (boolCode flag :: beBytes 8 time) →
      let p := boolCode flag :: beBytes 8 time
      (s.grant.holder ≠ some l → l ≠ .c → exec (.snapshotEdit l p) s = .next (replied q l 0x33 .notGranted .none)) ∧
      ((s.grant.holder = some l ∨ l = .c) →
        (s.inHold = false → exec (.snapshotEdit l p) s = .next (replied q l 0x33 .noOperation .none)) ∧
        (∀ snap pending, s.holdCtl = .hold snap pending → exec (.snapshotEdit l p) s = .next
          (replied (q.setHold (.hold
              { snap with restoreRate := flag, resumeTime := max skyMin (min time skyMax) } pending)) l 0x33
            (if time < skyMin ∨ skyMax < time then .clamped else .ok) .none))))

/-- RESUME carried out: the clock at the resume time with the rate restored, each held axis by its row of the table,
NORMAL, and RESUMED; the snapshot stays filled (R16, R156 to R158). -/
def Obligations.ResumeRestoresTheShow : Prop :=
  ∀ (s : State) (l : Link) (snap : Snapshot), Ready s l 0x31 [] → (s.grant.holder = some l ∨ l = .c) →
    s.holdCtl = .hold snap none → (∀ x, s.thermal.latest = some x → x < s.thermal.tw + 10) →
    (snap.resumeTime = snap.entryT ∨ NoInsideOnSky s) →
    let q := s.dropFrame l
    let t1 := if snap.resumeTime = snap.entryT then s.clock.t else max skyMin (min snap.resumeTime skyMax)
    let rt1 := if snap.restoreRate then snap.entryRt else 0
    ∃ axes,
      exec (.resume l []) s = .next
        (replied ((((q.setClock { t := t1, r := s.clock.r, rt := rt1 }).setAxes axes).setHold (.normal (some snap))).send
          (.resumed t1 rt1)) l 0x31 .ok .none) ∧
      ∀ a : Axis, ResumeRow a (snap.saved.get a) (s.axis a) (axes.get a)

/-- A jump of sky time by SET TIME, NUDGE or RESUME is tested against the INSIDE entries on sky time and no other: each that
it enters from outside fires, with WATCH and the cause of the lowest HOLD entry; at RESUME after the return to NORMAL and
RESUMED (R11, R158, R165, R169). The entries are supposed legal, so that no PAUSE can fire on a jump (R173). -/
def Obligations.JumpTestsInsideWatches : Prop :=
  ∀ (s : State) (l : Link), (∀ i w, (s.watches.get i).definition = some w → WatchLegal w) →
    let q := s.dropFrame l
    let lands (u : State) (t1 : Int) (t : State) : Prop :=
      WatchOutcome u .skyTime (fun w => JumpMeets w s.clock.t t1) u.clock t
    let jumps (k : Byte) (i : Instr) (asked : Int) : Prop :=
      let t1 := max skyMin (min asked skyMax)
      ∃ t, lands (q.setClock { s.clock with t := t1 }) t1 t ∧
        exec i s = .next (replied t l k (if t1 = asked then .ok else .clamped) .none)
    (s.grant.holder = some l → s.inHold = false → ∀ x : Int, -2 ^ 63 ≤ x → x < 2 ^ 63 →
      (Ready s l 0x02 (beBytes 8 x) → jumps 0x02 (.setTime l (beBytes 8 x)) (256 * x)) ∧
      (Ready s l 0x03 (beBytes 8 x) → jumps 0x03 (.nudge l (beBytes 8 x)) (s.clock.t + x))) ∧
    (∀ snap, (s.grant.holder = some l ∨ l = .c) → s.holdCtl = .hold snap none → snap.resumeTime ≠ snap.entryT →
      (∀ x, s.thermal.latest = some x → x < s.thermal.tw + 10) → Ready s l 0x31 [] →
      let t1 := max skyMin (min snap.resumeTime skyMax)
      let rt1 := if snap.restoreRate then snap.entryRt else 0
      ∃ axes t, (∀ a : Axis, ResumeRow a (snap.saved.get a) (s.axis a) (axes.get a)) ∧
        lands ((((q.setClock { t := t1, r := s.clock.r, rt := rt1 }).setAxes axes).setHold (.normal (some snap))).send
          (.resumed t1 rt1)) t1 t ∧
        exec (.resume l []) s = .next (replied t l 0x31 .ok .none))

/-! ### Watches -/

/-- WATCH SET is MALFORMED for an entry above 3, a scope, subject, condition or action that is not listed, an axis above 16,
and SKY TIME with INSIDE and PAUSE, from any link. With well-formed fields: NOT_GRANTED for LOCAL without the grant, OWNED,
else the entry DEFINED with the reference and width as its subject takes them, not enabled, its marks cleared (R173). -/
def Obligations.WatchSetDefinesEntry : Prop :=
  (∀ (s : State) (l : Link) (entry scope subject condition action : Byte) (r : List Byte), r.length = 12 →
    (3 < entry.toNat ∨ 1 < scope.toNat ∨ (16 < subject.toNat ∧ subject.toNat ≠ 255) ∨ 3 < condition.toNat ∨
      2 < action.toNat ∨ (subject.toNat = 255 ∧ condition.toNat = 3 ∧ action.toNat = 1)) →
    let p := entry :: scope :: subject :: condition :: (r ++ [action])
    Ready s l 0x38 p → exec (.watchSet l p) s = .next (replied (s.dropFrame l) l 0x38 .malformed .none)) ∧
  ∀ (s : State) (l : Link) (n : WatchNo) (scope : WatchScope) (subject : WatchSubject) (condition : WatchCondition)
    (reference width : Int) (action : WatchAction), -2 ^ 63 ≤ reference → reference < 2 ^ 63 → 0 ≤ width →
    width < 2 ^ 32 → ¬ (subject = .skyTime ∧ condition = .inside ∧ action = .pause) →
    let p := beBytes 1 n.val ++ [scope.code, subject.code, condition.code] ++ beBytes 8 reference ++ beBytes 4 width ++
      [action.code]
    Ready s l 0x38 p →
    let q := s.dropFrame l
    let others : Prop := ∃ w, (s.watches.get n).definition = some w ∧ w.owner ≠ l ∧ l ≠ .c
    let reference' :=
      match subject with
      | .skyTime => max skyMin (min reference skyMax)
      | .axis a => if bounded a then reference else reference % 2 ^ 32
    let w : WatchDef :=
      { owner := l, scope := scope, enabled := false, subject := subject, condition := condition
        reference := reference', width := max 1 (min width (2 ^ 31)), action := action }
    let clamped : Prop :=
      width < 1 ∨ 2 ^ 31 < width ∨ (subject = .skyTime ∧ (reference < skyMin ∨ skyMax < reference))
    (scope = .local_ → s.grant.holder ≠ some l →
      exec (.watchSet l p) s = .next (replied q l 0x38 .notGranted .none)) ∧
    ((scope = .global ∨ s.grant.holder = some l) →
      (others → exec (.watchSet l p) s = .next (replied q l 0x38 .owned .none)) ∧
      (¬ others →
        (clamped → exec (.watchSet l p) s = .next
          (replied (q.setWatches (s.watches.set n.val { definition := some w, hit := false, met := false } n.isLt)) l 0x38
            .clamped .none)) ∧
        (¬ clamped → exec (.watchSet l p) s = .next
          (replied (q.setWatches (s.watches.set n.val { definition := some w, hit := false, met := false } n.isLt)) l 0x38
            .ok .none))))

/-- WATCH ENABLE, DISABLE and CLEAR from the owner, Link C and others, and WATCH ACKNOWLEDGE (R174, R175). -/
def Obligations.WatchEntryRequests : Prop :=
  ∀ (s : State) (l : Link) (n : WatchNo),
    let q := s.dropFrame l
    let x := s.watches.get n
    let p := beBytes 1 n.val
    let put (k : Byte) (y : Watch) : State := replied (q.setWatches (s.watches.set n.val y n.isLt)) l k .ok .none
    (∀ w, x.definition = some w → w.owner ≠ l → l ≠ .c →
      (Ready s l 0x39 p → exec (.watchEnable l p) s = .next (replied q l 0x39 .owned .none)) ∧
      (Ready s l 0x3A p → exec (.watchDisable l p) s = .next (replied q l 0x3A .owned .none)) ∧
      (Ready s l 0x3B p → exec (.watchClear l p) s = .next (replied q l 0x3B .owned .none))) ∧
    (x.definition = none →
      (Ready s l 0x39 p → exec (.watchEnable l p) s = .next (replied q l 0x39 .empty .none)) ∧
      (Ready s l 0x3A p → exec (.watchDisable l p) s = .next (replied q l 0x3A .ok .none)) ∧
      (Ready s l 0x3B p → exec (.watchClear l p) s = .next (replied q l 0x3B .ok .none))) ∧
    (∀ w, x.definition = some w → (w.owner = l ∨ l = .c) →
      (Ready s l 0x39 p → w.scope = .local_ → s.grant.holder ≠ some l →
        exec (.watchEnable l p) s = .next (replied q l 0x39 .notGranted .none)) ∧
      (Ready s l 0x39 p → (w.scope = .global ∨ s.grant.holder = some l) →
        exec (.watchEnable l p) s = .next (put 0x39 { x with definition := some { w with enabled := true } })) ∧
      (Ready s l 0x3A p →
        exec (.watchDisable l p) s = .next (put 0x3A { x with definition := some { w with enabled := false } })) ∧
      (Ready s l 0x3B p →
        exec (.watchClear l p) s = .next (put 0x3B { definition := none, hit := false, met := false }))) ∧
    (∀ marks : Nat, marks < 256 → Ready s l 0x3D (beBytes 1 marks) → ∃ watches,
      exec (.watchAcknowledge l (beBytes 1 marks)) s = .next (replied (q.setWatches watches) l 0x3D .ok .none) ∧
      ∀ i : WatchNo, watches.get i =
        { s.watches.get i with
          hit := (s.watches.get i).hit && !marks.testBit i.val
          met := (s.watches.get i).met && !marks.testBit (4 + i.val) })

/-- A clock step with watch entries on sky time: the step with its SKY LIMIT, and then what the watch unit makes of the
change from the old T to the new: marks, WATCH in ascending order, the pin at the PAUSE reference met first in the direction
of travel, and after it the cause of the lowest HOLD entry; without a PAUSE the clock is the step's (R3 to R6, R14, R147,
R165, R167, R169 to R172). -/
def Obligations.ClockStepFiresWatches : Prop :=
  ∀ s : State, (∀ i w, (s.watches.get i).definition = some w → WatchLegal w) →
    let x := s.clock.t
    let y := (stepped s).clock.t
    let meets (w : WatchDef) : Prop := StepMeets w x y
    let paused := PausesAt (stepped s) .skyTime meets
    ∃ t, exec .clockStep s = .next t ∧
      ((∀ r, ¬ paused r) → WatchOutcome (stepped s) .skyTime meets (stepped s).clock t) ∧
      (∀ r, paused r → (∀ r', paused r' → if x < y then r ≤ r' else r' ≤ r) →
        WatchOutcome (stepped s) .skyTime meets { t := r, r := 0, rt := 0 } t)

/-! ### Links -/

/-- The characters of a frame on the line, taken one after another from HUNTING, are exactly that frame's arrival
(R178, R179, R199, R200). -/
def Obligations.WireCarriesFrame : Prop :=
  ∀ (s : State) (l : Link) (f : Frame), f.payload.length ≤ 250 → (s.link l).receiver = .hunting →
    exec (.frameArrival l f.kind f.payload) s = .next (hear l f.wire s)

/-- CHARACTER RECEIVED: hunting and the start byte, framing faults, the length limit, the count, and the check; a frame whose
check agrees arrives as FRAME ARRIVAL has it (R178). A frame arrival restarts an armed guard, and then appends the frame, or
with 4 frames held drops it and sets OVERRUN (R179, R190); it leaves the receiver HUNTING (log 15). -/
def Obligations.FramesComeIn : Prop :=
  (∀ (s : State) (l : Link) (ch : Byte),
      let x := s.link l
      let dropped : State := s.setLink l { x with receiver := .hunting, lineError := true }
      (x.receiver = .hunting → ch ≠ 0xA5 → exec (.characterReceived l ch false) s = .next dropped) ∧
      (exec (.characterReceived l ch true) s = .next dropped) ∧
      (x.receiver = .hunting → exec (.characterReceived l 0xA5 false) s =
        .next (s.setLink l { x with receiver := .collecting [] })) ∧
      (∀ got n rest, x.receiver = .collecting got → got ++ [ch] = n :: rest →
        (250 < n.toNat → exec (.characterReceived l ch false) s = .next dropped) ∧
        (n.toNat ≤ 250 → rest.length < n.toNat + 3 →
          exec (.characterReceived l ch false) s = .next (s.setLink l { x with receiver := .collecting (got ++ [ch]) })) ∧
        (∀ kind payload check, rest = kind :: (payload ++ check) → n.toNat ≤ 250 → payload.length = n.toNat →
          check.length = 2 →
          (check ≠ crcBytes (crcOf (n :: kind :: payload)) →
            exec (.characterReceived l ch false) s = .next dropped) ∧
          (check = crcBytes (crcOf (n :: kind :: payload)) →
            exec (.characterReceived l ch false) s = exec (.frameArrival l kind payload) s)))) ∧
  (∀ (s : State) (l : Link) (kind : Byte) (payload : List Byte), payload.length ≤ 250 →
      let x := s.link l
      let guard : Guard :=
        match x.guard with
        | .disarmed => .disarmed
        | .running i a _ => .running i a i.ms
        | .expired i a => .running i a i.ms
      (x.buffer.length < 4 → exec (.frameArrival l kind payload) s = .next
        (s.setLink l { x with receiver := .hunting, guard := guard, buffer := x.buffer ++ [⟨kind, payload⟩] })) ∧
      (4 ≤ x.buffer.length → exec (.frameArrival l kind payload) s = .next
        (s.setLink l { x with receiver := .hunting, guard := guard, overrun := true })))

/-- An event is sent to all three links: appended where fewer than 8 wait, else lost for that link with its OVERRUN set
(R193). The transmitter begins the reply, else the waiting report with the two flags read into it and cleared, else the
oldest event, else nothing (R181, R195). -/
def Obligations.EventsAreQueuedAndFramesSent : Prop :=
  (∀ (s : State) (e : Event) (l : Link),
      let x := s.link l
      (x.events.length < 8 → (s.send e).link l = { x with events := x.events ++ [e] }) ∧
      (8 ≤ x.events.length → (s.send e).link l = { x with overrun := true })) ∧
  (∀ (s : State) (l : Link),
      let x := s.link l
      (∀ r, x.reply = some r → exec (.transmitStart l) s = .next
        (s.setLink l { x with reply := none, sending := some r.frame })) ∧
      (∀ rep, x.reply = none → x.report = some rep → exec (.transmitStart l) s = .next
        (s.setLink l { x with
          report := none, overrun := false, lineError := false, sending := some (rep.frame x.overrun x.lineError) })) ∧
      (∀ e rest, x.reply = none → x.report = none → x.events = e :: rest → exec (.transmitStart l) s = .next
        (s.setLink l { x with events := rest, sending := some e.frame })) ∧
      (x.reply = none → x.report = none → x.events = [] → exec (.transmitStart l) s = .next s))

/-- A report event collects the values as they stand, in place of a report not yet sent, and restarts the timer; REPORT
INTERVAL starts or stops the reports (R194, R195). With reporting OFF or time left there is no report event, and a command
for one changes nothing (log 1, 17). -/
def Obligations.ReportsAreCollected : Prop :=
  ∀ (s : State) (l : Link),
    let q := s.dropFrame l
    ((s.link l).reporting = .off → exec (.reportEvent l) s = .next s) ∧
    (∀ i left, (s.link l).reporting = .every i (left + 1) → exec (.reportEvent l) s = .next s) ∧
    (∀ i, (s.link l).reporting = .every i 0 → ∃ rep, exec (.reportEvent l) s = .next
        (s.setLink l { s.link l with report := some rep, reporting := .every i i.ms }) ∧
      rep.t = s.clock.t ∧ rep.r = s.clock.r ∧ rep.rt = s.clock.rt ∧ rep.holder = s.grant.holder ∧
      rep.inHold = s.inHold ∧ rep.warning = s.thermal.warning ∧
      ∀ a : Axis, (rep.axes.get a).position = (if bounded a then (s.axis a).p else (s.axis a).p % 2 ^ 32) ∧
        (rep.axes.get a).mode = (s.axis a).mode.name ∧ (rep.axes.get a).referenced = (s.axis a).referenced ∧
        (rep.axes.get a).lagging = (s.axis a).lagging ∧
        ((rep.axes.get a).fault = true ↔ ∃ cause, (s.axis a).mode = .fault cause)) ∧
    (Ready s l 0x49 [0] → exec (.reportInterval l [0]) s = .next
      (replied (q.setLink l { q.link l with reporting := .off, report := none }) l 0x49 .ok .none)) ∧
    (∀ i : ReportEvery, Ready s l 0x49 (beBytes 1 i.ms) → exec (.reportInterval l (beBytes 1 i.ms)) s = .next
      (replied (q.setLink l { q.link l with reporting := .every i i.ms }) l 0x49 .ok .none)) ∧
    (∀ b : Byte, b.toNat ∉ [0, 10, 20, 50, 100, 200] → Ready s l 0x49 [b] →
      exec (.reportInterval l [b]) s = .next (replied q l 0x49 .malformed .none))

/-- GUARD ARM arms the guard with its full interval, LOCKED from HOLD to RELEASE (R189). A guard's expiry sends GUARD
EXPIRED, passes the grant of its holder, releases the target or hands over its cause, and leaves the queue (R191). A guard
with time left, as after a frame arrival or a GUARD ARM, and one that is not RUNNING do not expire (R190, R192), and a
command for an expiry changes nothing (log 1, 17). -/
def Obligations.GuardArmsAndExpires : Prop :=
  ∀ (s : State) (l : Link),
    let q := s.dropFrame l
    (∀ (i : GuardInterval) (act : GuardAction), Ready s l 0x48 (beBytes 2 i.ms ++ [act.code]) →
      let p := beBytes 2 i.ms ++ [act.code]
      let locked : Prop := act = .release ∧
        ((∃ j left, (s.link l).guard = .running j .hold left) ∨ ∃ j, (s.link l).guard = .expired j .hold)
      (locked → exec (.guardArm l p) s = .next (replied q l 0x48 .locked .none)) ∧
      (¬ locked → exec (.guardArm l p) s = .next
        (replied (q.setLink l { q.link l with guard := .running i act i.ms }) l 0x48 .ok .none))) ∧
    (∀ i act left, (s.link l).guard = .running i act (left + 1) → exec (.guardExpiry l) s = .next s) ∧
    ((∀ i act left, (s.link l).guard ≠ .running i act left) → exec (.guardExpiry l) s = .next s) ∧
    (∀ i act, (s.link l).guard = .running i act 0 →
      let s1 := (s.setLink l { s.link l with guard := .expired i act }).send (.guardExpired l act)
      let passed : State :=
        match s.grant.queue with
        | [] => grantChange s1 none [] .guard
        | first :: rest => grantChange s1 (some first) rest .guard
      (act = .release → s.grant.holder = some l → exec (.guardExpiry l) s =
        .next (leaveQueue (passed.setClock { s.clock with rt := 0 }) l)) ∧
      (act = .release → s.grant.holder ≠ some l → exec (.guardExpiry l) s = .next (leaveQueue s1 l)) ∧
      (act = .hold → s.grant.holder = some l → exec (.guardExpiry l) s =
        .next (leaveQueue (handCause passed (.guard l)) l)) ∧
      (act = .hold → s.grant.holder ≠ some l → exec (.guardExpiry l) s =
        .next (leaveQueue (handCause s1 (.guard l)) l)))

/-- GRANT REQUEST, GRANT RELEASE and GRANT SEIZE from the holder, a waiter and the others (R184 to R186). A grant change sets
holder and queue, disables every LOCAL watch entry with its definition and marks kept, sends GRANT to every link, and does
nothing else (R176, R187). -/
def Obligations.GrantPassesBetweenLinks : Prop :=
  (∀ (s : State) (l : Link), GrantLaw s →
      let q := s.dropFrame l
      let queued (ls : List Link) : State := q.setGrant { holder := s.grant.holder, queue := ls }
      (Ready s l 0x40 [] →
        (s.grant.holder = some l → exec (.grantRequest l []) s = .next (replied q l 0x40 .ok .none)) ∧
        (s.grant.holder = none →
          exec (.grantRequest l []) s = .next (replied (grantChange q (some l) [] .request) l 0x40 .ok .none)) ∧
        (∀ h, s.grant.holder = some h → h ≠ l →
          (l ∈ s.grant.queue → exec (.grantRequest l []) s = .next (replied q l 0x40 .queued .none)) ∧
          (l ∉ s.grant.queue →
            exec (.grantRequest l []) s = .next (replied (queued (s.grant.queue ++ [l])) l 0x40 .queued .none)))) ∧
      (Ready s l 0x41 [] →
        (s.grant.holder = some l →
          (s.grant.queue = [] →
            exec (.grantRelease l []) s = .next (replied (grantChange q none [] .release) l 0x41 .ok .none)) ∧
          (∀ first rest, s.grant.queue = first :: rest →
            exec (.grantRelease l []) s = .next (replied (grantChange q (some first) rest .release) l 0x41 .ok .none))) ∧
        (s.grant.holder ≠ some l → exec (.grantRelease l []) s =
          .next (replied (queued (s.grant.queue.filter fun m => m ≠ l)) l 0x41 .ok .none))) ∧
      (Ready s l 0x42 [] →
        (l ≠ .c → exec (.grantSeize l []) s = .next (replied q l 0x42 .notConsole .none)) ∧
        (l = .c → s.grant.holder = some .c → exec (.grantSeize l []) s = .next (replied q l 0x42 .ok .none)) ∧
        (l = .c → s.grant.holder ≠ some .c → exec (.grantSeize l []) s = .next
          (replied (grantChange q (some .c) (s.grant.queue.filter fun m => m ≠ .c) .seize) l 0x42 .ok .none)))) ∧
  (∀ (s : State) (holder : Option Link) (queue : List Link) (reason : GrantReason), ∃ watches,
      grantChange s holder queue reason =
        (((s.setGrant { holder := holder, queue := queue }).setWatches watches).send
          (.grant holder s.grant.holder reason (decide (reason = .seize)))) ∧
      ∀ i : WatchNo,
        (∀ w, (s.watches.get i).definition = some w → w.scope = .local_ →
          watches.get i = { s.watches.get i with definition := some { w with enabled := false } }) ∧
        ((∀ w, (s.watches.get i).definition = some w → w.scope = .global) → watches.get i = s.watches.get i))

/-- READ STATUS carries the link's condition and clears its two flags; LINK RESET empties the link's queues, stops its
reports, takes it out of the grant queue and gives up its grant, and leaves its guard (R196, R197). -/
def Obligations.ReadStatusAndLinkReset : Prop :=
  ∀ (s : State) (l : Link),
    let q := s.dropFrame l
    let x := s.link l
    (Ready s l 0x4A [] → ∃ y, exec (.readStatus l []) s = .next
        (replied (q.setLink l { q.link l with overrun := false, lineError := false }) l 0x4A .ok (.status y)) ∧
      y.overrun = x.overrun ∧ y.lineError = x.lineError ∧ y.defaulted = s.store.defaulted ∧
      y.holder = s.grant.holder ∧ y.queue = s.grant.queue ∧ y.guard = x.guard ∧ y.reporting = x.reporting ∧
      y.events = x.events.length) ∧
    (Ready s l 0x4B [] → GrantLaw s →
      let clean : State := q.setLink l
        { x with buffer := [], events := [], report := none, reporting := .off, overrun := false, lineError := false }
      (s.grant.holder ≠ some l → exec (.linkReset l []) s = .next
        (replied (clean.setGrant
          { holder := s.grant.holder, queue := s.grant.queue.filter fun m => m ≠ l }) l 0x4B .ok .none)) ∧
      (s.grant.holder = some l → s.grant.queue = [] → exec (.linkReset l []) s = .next
        (replied (grantChange clean none [] .linkReset) l 0x4B .ok .none)) ∧
      (∀ first rest, s.grant.holder = some l → s.grant.queue = first :: rest → exec (.linkReset l []) s = .next
        (replied (grantChange clean (some first) rest .linkReset) l 0x4B .ok .none)))

/-! ### Device reset -/

/-- DEVICE RESET sets every block to its reset value, takes the parameters of a record whose check matches and the
built-in defaults otherwise, and spoils what an abandoned store operation was working on (R2, R19, R33, R57, R69, R85,
R87, R91, R93, R131, R146, R164, R183, R198). Every value of a record whose check matches is taken clamped to its range,
from the place R204 gives it, and an axis whose block is inconsistent takes its built-in defaults whole while the others
keep theirs (R85, R93); what an unlisted code of the record is taken as is the model's choice (log 11). A trip line active
at the end of the reset has then become active anew (R132), and an end switch (in EndSwitchFaultsAxis) likewise; the order
of several lines is the operand's (log 5). -/
def Obligations.DeviceResetSetsEveryBlock : Prop :=
  ∀ s : State, SlotMap.wf s.store.slots = true →
    let saving : Prop := ∃ phase copy, s.store.op = .saving phase copy
    let spoiled (n : Nat) : Prop :=
      SlotAway s.store.op n ∨ (∃ sec left, s.store.op = .erasing sec left ∧ n / 32 = sec.val) ∨
      (∃ m g, s.store.op = .writing m g ∧ n = m.val) ∨
      (∃ m g sec left, s.store.op = .writingInSuspend m g sec left ∧ n = m.val)
    let stands (ps : ParamSet) (defaulted : Bool) (record : List Byte) : Prop := ∃ axes slots,
      exec (.deviceReset [] []) s = .next
        { clock := { t := 0, r := 0, rt := 0 }
          ball := { latitude := ps.latitude, longitude := ps.longitude, coupled := true, frozen := 0 }
          eph := { tracks := Vector.replicate 13 { last := 0, source := .uncovered }, phase := 0 }
          patches := Vector.replicate 8 .unset
          axes := axes
          store := { slots := slots, record := record, mask := Vector.replicate 63 true, deferred := false, op := .idle
                     defaulted := defaulted }
          thermal := { warning := false, latest := none, overMark := false, tw := ps.tw }
          holdCtl := .normal none
          watches := Vector.replicate 4 { definition := none, hit := false, met := false }
          links := { s := LinkState.reset, c := LinkState.reset, d := LinkState.reset }
          grant := { holder := none, queue := [] }
          pending := s.pending } ∧
      (∀ n, (spoiled n → SlotMap.read slots n = .spoiled) ∧
        (¬ spoiled n → SlotMap.read slots n = SlotMap.read s.store.slots n)) ∧
      ∀ a : Axis, axes.get a =
        { mode := .parked, referenced := false, lagging := false, p := (ps.axes.get a).indexOffset, v := 0
          d := (ps.axes.get a).indexOffset * (ps.axes.get a).gear / 2 ^ 32, burst := 0, params := ps.axes.get a
          driveEnabled := true, tripCount := 0, tripWindow := none, tripLine := .inactive
          switchLow := false, switchHigh := false }
    let checks : Prop :=
      s.store.record.length = 572 ∧ crcBytes (crcOf (s.store.record.take 570)) = s.store.record.drop 570
    let at_ (offset n : Nat) : Int :=
      (((s.store.record.drop offset).take n).foldl (fun acc b => 256 * acc + b.toNat) 0 : Nat)
    let within (lo hi x : Int) : Int := if x < lo then lo else if hi < x then hi else x
    let BlockTaken (a : Axis) (q : AxisParams) : Prop :=
      let o := 33 * a.val
      q.gear = within 1 (2 ^ 22) (at_ o 3) ∧ q.vmax = within 1 (2 ^ 26) (at_ (o + 3) 4) ∧
      q.amax = within 1 (2 ^ 20) (at_ (o + 7) 3) ∧ q.homeSpeed = within 1 q.vmax (at_ (o + 10) 4) ∧
      q.homeDirection = (if at_ (o + 14) 1 = 0 then .positive else .negative) ∧
      q.tolerance = within 0 (2 ^ 31 - 1) (at_ (o + 27) 4) ∧
      q.tripFilter = (if at_ (o + 31) 1 < 20 then .us0 else if at_ (o + 31) 1 < 40 then .us20
        else if at_ (o + 31) 1 < 80 then .us40 else .us80) ∧
      q.recovery = (if at_ (o + 32) 1 = 0 then .manual else .retry) ∧
      (bounded a = true →
        q.indexOffset = within (-2 ^ 30) (2 ^ 30) (Int.bmod (at_ (o + 15) 4) (2 ^ 32)) ∧
        q.travelMin = within (-2 ^ 30) (2 ^ 30) (Int.bmod (at_ (o + 19) 4) (2 ^ 32)) ∧
        q.travelMax = within (-2 ^ 30) (2 ^ 30) (Int.bmod (at_ (o + 23) 4) (2 ^ 32)) ∧
        q.wrapLimit = AxisParams.builtIn.wrapLimit) ∧
      (bounded a = false →
        q.indexOffset = Int.bmod (at_ (o + 15) 4) (2 ^ 32) ∧ q.wrapLimit = within 0 8 (at_ (o + 19) 4) ∧
        q.travelMin = AxisParams.builtIn.travelMin ∧ q.travelMax = AxisParams.builtIn.travelMax)
    (checks → ¬ saving → ∃ ps, stands ps false s.store.record ∧
      ps.latitude = within (-2 ^ 30) (2 ^ 30) (Int.bmod (at_ 561 4) (2 ^ 32)) ∧ ps.longitude = at_ 565 4 ∧
      ps.tw = within 60 115 (Int.bmod (at_ 569 1) (2 ^ 8)) / 5 * 5 ∧
      ∀ a : Axis, ∃ q, BlockTaken a q ∧ (ParamsConsistent a q → ps.axes.get a = q) ∧
        (¬ ParamsConsistent a q → ps.axes.get a = AxisParams.builtIn)) ∧
    (∀ ps, ParamSetLegal ps → s.store.record = paramRecord ps → ¬ saving → stands ps false (paramRecord ps)) ∧
    (¬ saving → crcBytes (crcOf (s.store.record.take 570)) ≠ s.store.record.drop 570 →
      stands ParamSet.builtIn true s.store.record) ∧
    (saving → stands ParamSet.builtIn true (List.replicate 572 0xFF)) ∧
    (∀ (trips : List Axis) (a : Axis), ∃ t, exec (.deviceReset trips []) s = .next t ∧
      exec (.deviceReset (trips ++ [a]) []) s = exec (.qualifiedTrip { axis := a, anew := true, us := 0 }) t)

/-! ### Codes -/

/-- The command a frame spells and the frame a command takes agree, for every request kind and every other kind
(R180, R201). That a COUPLE frame is the one of two rows that its argument names is the model's choice (log 14). -/
def Obligations.FrameAndCommandAgree : Prop :=
  (∀ (i : Instr) (l : Link) (k : Byte) (p : List Byte), i.wf = true → i.frame? = some (l, k, p) →
    ∃ lines, requestOf l lines k p = i) ∧
  (∀ (l : Link) (lines : Lines) (k : Byte) (p : List Byte), (requestOf l lines k p).frame? = some (l, k, p))

/-! ### Laws that every step keeps -/

/-- A step always answers a next state: the manual stops the part nowhere. -/
def Obligations.EveryStepAnswers : Prop := ∀ s : State, ∃ t, step s = .next t

/-- State.reset keeps every law. It is the power-on of a part fresh from manufacture with no line active: its empty slots, its
blank record and with it its built-in parameters are the reading of log 7, its line levels the choice of log 23. -/
def Obligations.LawsHoldAtReset : Prop := Lawful State.reset

/-- R1: T stays within the range of sky time and neither rate passes RATE_MAX, at every step of every lawful state. -/
def Obligations.ClockLawKept : Prop := ∀ s t : State, ClockLaw s → step s = .next t → ClockLaw t

/-- In HOLD the rates stay 0, sky time stays the entry T and no axis follows, moves or homes; in NORMAL no axis is bound
for HELD (R148, R149, R151, R157). -/
def Obligations.HoldLawKept : Prop := ∀ s t : State, ClockLaw s → HoldLaw s → step s = .next t → HoldLaw t

/-- R183: one holder at most, at most two waiters, none twice and never the holder; and while the grant is free no
LOCAL watch entry is enabled. -/
def Obligations.GrantLawKept : Prop := ∀ s t : State, GrantLaw s → step s = .next t → GrantLaw t

/-- The laws of the axis channels (R90, R92, R100, R102, R104, R108, R114, R118, R131). -/
def Obligations.AxisLawKept : Prop := ∀ s t : State, AxisLaw s → step s = .next t → AxisLaw t

/-- The laws of the store (R67, R70, R204) and the patch table (R56, R58). -/
def Obligations.StoreAndPatchLawKept : Prop :=
  ∀ s t : State, StoreLaw s → PatchLaw s → step s = .next t → StoreLaw t ∧ PatchLaw t

/-- The ranges of the angles that star ball geometry and the evaluator hold (R18, R32), and of TW (R144). -/
def Obligations.AngleAndThermalLawKept : Prop :=
  ∀ s t : State, AngleLaw s → ThermalLaw s → step s = .next t → AngleLaw t ∧ ThermalLaw t

/-- No link holds more than 4 frames or 8 events, and its receiver never collects past a frame (R178, R179, R193). -/
def Obligations.LinksLawKept : Prop := ∀ s t : State, LinksLaw s → step s = .next t → LinksLaw t
end

