-- ==== Sys2Proof/Laws/Arith.lean ====
section
/-! SUPPORT. The laws of the manual's arithmetic: clamps, the floor square root, big-endian fields, the CRC's length. -/

namespace Sys2Proof.Machine

/-! ### Clamps, signs, magnitudes -/

theorem clamp_range {x lo hi : Int} (h : lo ≤ hi) : lo ≤ clamp x lo hi ∧ clamp x lo hi ≤ hi := by
  unfold clamp; split <;> (try split) <;> omega

theorem clamp_eq {x lo hi : Int} (h : lo ≤ hi) : clamp x lo hi = max lo (min x hi) := by
  unfold clamp; split <;> (try split) <;> omega

theorem clamp_of_mem {x lo hi : Int} (h1 : lo ≤ x) (h2 : x ≤ hi) : clamp x lo hi = x := by
  unfold clamp; split <;> (try split) <;> omega

theorem mag_eq (x : Int) : mag x = |x| := by
  unfold mag
  split
  · rw [abs_of_neg ‹_›]
  · rw [abs_of_nonneg (by omega)]

theorem mag_nonneg (x : Int) : 0 ≤ mag x := by unfold mag; split <;> omega

theorem sgn_mul_mag (x : Int) : sgn x * mag x = x := by
  unfold sgn mag; split
  · omega
  · split <;> omega

theorem wrap_range (x : Int) : 0 ≤ wrap x ∧ wrap x < turn := by unfold wrap turn; omega

/-! ### The floor square root -/

theorem isqrtFuel_spec (k n : Nat) (h : n < 4 ^ k) :
    isqrtFuel k n * isqrtFuel k n ≤ n ∧ n < (isqrtFuel k n + 1) * (isqrtFuel k n + 1) := by
  induction k generalizing n with
  | zero =>
    have : n = 0 := by simpa using h
    subst this; simp [isqrtFuel]
  | succ k ih =>
    have h4 : n / 4 < 4 ^ k := by rw [pow_succ] at h; omega
    obtain ⟨h1, h2⟩ := ih (n / 4) h4
    simp only [isqrtFuel]
    generalize isqrtFuel k (n / 4) = r at h1 h2
    have h3 : 4 * (n / 4) ≤ n ∧ n < 4 * (n / 4) + 4 := by omega
    have h5 : (2 * r) * (2 * r) ≤ n := by nlinarith
    have h6 : n < (2 * r + 1 + 1) * (2 * r + 1 + 1) := by nlinarith
    split
    · exact ⟨by assumption, h6⟩
    · exact ⟨h5, by omega⟩

/-- `isqrt n` is the floor square root of `n`. -/
theorem isqrt_spec (n : Nat) : isqrt n * isqrt n ≤ n ∧ n < (isqrt n + 1) * (isqrt n + 1) := by
  apply isqrtFuel_spec
  have h : n < 2 ^ (n.log2 + 1) := Nat.lt_log2_self
  have : 2 ^ (n.log2 + 1) ≤ 4 ^ (n.log2 + 1) := Nat.pow_le_pow_left (by omega) _
  omega

theorem floorSqrt_nonneg (x : Int) : 0 ≤ floorSqrt x := by unfold floorSqrt; omega

/-! ### Big-endian fields -/

@[simp] theorem beBytes_length (k : Nat) (x : Int) : (beBytes k x).length = k := by
  induction k with
  | zero => rfl
  | succ k ih => simp [beBytes, ih]

theorem foldl_be (bytes : List Byte) (acc : Nat) :
    bytes.foldl (fun acc b => acc * 256 + b.toNat) acc = acc * 256 ^ bytes.length + beNat bytes := by
  unfold beNat
  induction bytes generalizing acc with
  | nil => simp
  | cons b rest ih =>
    simp only [List.foldl_cons, List.length_cons]
    rw [ih, ih (0 * 256 + b.toNat), pow_succ]
    ring

theorem beNat_cons (b : Byte) (rest : List Byte) : beNat (b :: rest) = b.toNat * 256 ^ rest.length + beNat rest := by
  have h := foldl_be rest b.toNat
  simpa [beNat] using h

theorem beNat_append (x y : List Byte) : beNat (x ++ y) = beNat x * 256 ^ y.length + beNat y := by
  unfold beNat
  rw [List.foldl_append, foldl_be]
  rfl

theorem beNat_lt (bytes : List Byte) : beNat bytes < 256 ^ bytes.length := by
  induction bytes with
  | nil => simp [beNat]
  | cons b rest ih =>
    rw [beNat_cons, List.length_cons, pow_succ]
    have := b.isLt
    nlinarith

/-- The bytes of a value have that value modulo their range. -/
theorem beNat_beBytes (k : Nat) (x : Int) : ((beNat (beBytes k x) : Nat) : Int) = x % 256 ^ k := by
  induction k with
  | zero => simp [beBytes, beNat]
  | succ k ih =>
    rw [beBytes, beNat_cons, beBytes_length]
    push_cast
    rw [ih, BitVec.toNat_ofInt]
    have hp : (0 : Int) < 256 ^ k := by positivity
    have h2 : (((x / 256 ^ k) % ((2 ^ 8 : Nat) : Int)).toNat : Int) = (x / 256 ^ k) % 256 := by
      rw [Int.toNat_of_nonneg (Int.emod_nonneg _ (by norm_num))]
      norm_num
    rw [h2]
    have h3 := Int.emod_add_mul_ediv x (256 ^ k)
    have h4 := Int.emod_add_mul_ediv (x / 256 ^ k) 256
    have h5 : x % 256 ^ (k + 1) = (x / 256 ^ k % 256) * 256 ^ k + x % 256 ^ k := by
      have hr : 0 ≤ x % 256 ^ k ∧ x % 256 ^ k < 256 ^ k := ⟨Int.emod_nonneg _ hp.ne', Int.emod_lt_of_pos _ hp⟩
      have hq : 0 ≤ x / 256 ^ k % 256 ∧ x / 256 ^ k % 256 < 256 :=
        ⟨Int.emod_nonneg _ (by norm_num), Int.emod_lt_of_pos _ (by norm_num)⟩
      have hx : x = (x / 256 ^ k % 256 * 256 ^ k + x % 256 ^ k) + 256 ^ (k + 1) * (x / 256 ^ k / 256) := by
        rw [pow_succ]; linear_combination -h3 - 256 ^ k * h4
      conv_lhs => rw [hx]
      rw [Int.add_mul_emod_self_left]
      apply Int.emod_eq_of_lt
      · nlinarith
      · rw [pow_succ]; nlinarith
    rw [h5]

theorem beUnsigned_beBytes {k : Nat} {x : Int} (h0 : 0 ≤ x) (h1 : x < 256 ^ k) : beUnsigned (beBytes k x) = x := by
  unfold beUnsigned
  rw [beNat_beBytes, Int.emod_eq_of_lt h0 h1]

theorem beSigned_beBytes {k : Nat} {x : Int} (h0 : -(256 ^ k) ≤ 2 * x) (h1 : 2 * x < 256 ^ k) :
    beSigned (beBytes k x) = x := by
  have h := beNat_beBytes k x
  have hp : (0 : Int) < 256 ^ k := by positivity
  simp only [beSigned, beBytes_length]
  generalize hn : beNat (beBytes k x) = n at h
  rcases Int.lt_or_le x 0 with hx | hx
  · have hm : x % 256 ^ k = x + 256 ^ k := by
      rw [← Int.add_emod_right]
      exact Int.emod_eq_of_lt (by omega) (by omega)
    have : ¬ (2 * n < 256 ^ k) := by
      have : ¬ ((2 * n : Nat) : Int) < ((256 ^ k : Nat) : Int) := by push_cast; omega
      omega
    rw [if_neg this]
    omega
  · have hm : x % 256 ^ k = x := Int.emod_eq_of_lt hx (by omega)
    have : 2 * n < 256 ^ k := by
      have : ((2 * n : Nat) : Int) < ((256 ^ k : Nat) : Int) := by push_cast; omega
      omega
    rw [if_pos this]
    omega

/-- Bytes fed in two parts give what they give fed as one sequence (R199). -/
theorem crcFeed_append (r : Crc) (a b : List Byte) : crcFeed r (a ++ b) = crcFeed (crcFeed r a) b :=
  List.foldl_append

@[simp] theorem crcBytes_length (r : Crc) : (crcBytes r).length = 2 := rfl

end Sys2Proof.Machine
end

