-- ==== Sys2Proof/Laws/Operands.lean ====
section
/-! SUPPORT. What each reader of a payload gives on the bytes of its fields, and that the blank record loads nothing. -/

set_option Elab.async false

namespace Sys2Proof.Machine

/-! ### Fields -/

theorem beNat_beBytes_nat {k n : Nat} (h : n < 256 ^ k) : beNat (beBytes k (n : Int)) = n := by
  have bytes := beNat_beBytes k (n : Int)
  have small : (n : Int) % 256 ^ k = n := Int.emod_eq_of_lt (by omega) (by exact_mod_cast h)
  omega

theorem field_left {a b : List Byte} {n : Nat} (h : a.length = n) : field (a ++ b) 0 n = a := by simp [field, ← h]

theorem field_skip {a b : List Byte} {i n : Nat} (h : a.length ≤ i) : field (a ++ b) i n = field b (i - a.length) n := by
  simp [field, List.drop_append, List.drop_of_length_le h]

theorem field_all {a : List Byte} {n : Nat} (h : a.length = n) : field a 0 n = a := by simp [field, ← h]

theorem field_head (b : Byte) (rest : List Byte) : field (b :: rest) 0 1 = [b] := rfl

theorem field_tail (b : Byte) (rest : List Byte) (i n : Nat) : field (b :: rest) (i + 1) n = field rest i n := rfl

theorem ofLength_ne {α : Type} {n : Nat} {p : List Byte} {x : Option α} (h : p.length ≠ n) : ofLength n p x = none := by
  simp [ofLength, h]

theorem ofLength_eq {α : Type} {n : Nat} {p : List Byte} {x : Option α} (h : p.length = n) : ofLength n p x = x := by
  simp [ofLength, h]

theorem readNo_beBytes {bound k : Nat} (i : Fin bound) (h : bound ≤ 256 ^ k) :
    readNo bound (beBytes k (i.val : Int)) = some i := by
  have bytes := beNat_beBytes_nat (k := k) (n := i.val) (by omega)
  simp [readNo, bytes, i.isLt]

theorem readNo_none {bound : Nat} {bytes : List Byte} (h : bound ≤ beNat bytes) : readNo bound bytes = none := by
  simp [readNo, Nat.not_lt.mpr h]

theorem beNat_singleton (b : Byte) : beNat [b] = b.toNat := by simp [beNat]

theorem boolCode_beNat (b : Bool) : beNat [boolCode b] = b.toNat := by cases b <;> rfl

theorem readOnOff_boolCode (b : Bool) : readOnOff [boolCode b] = some b := by cases b <;> rfl

/-! ### Payloads of one number -/

theorem readSigned8_beBytes {x : Int} (h1 : -2 ^ 63 ≤ x) (h2 : x < 2 ^ 63) : readSigned8 (beBytes 8 x) = some x := by
  simp only [readSigned8, ofLength_eq (beBytes_length 8 x)]
  rw [beSigned_beBytes (by norm_num; omega) (by norm_num; omega)]

theorem readTrackNo_beBytes (k : Track) : readTrackNo (beBytes 1 k.val) = some k := by
  rw [readTrackNo, ofLength_eq (beBytes_length ..), readNo_beBytes k (by decide)]

theorem readPatchNo_beBytes (n : PatchNo) : readPatchNo (beBytes 1 n.val) = some n := by
  rw [readPatchNo, ofLength_eq (beBytes_length ..), readNo_beBytes n (by decide)]

theorem readWatchNo_beBytes (n : WatchNo) : readWatchNo (beBytes 1 n.val) = some n := by
  rw [readWatchNo, ofLength_eq (beBytes_length ..), readNo_beBytes n (by decide)]

theorem readAxisNo_beBytes (a : Axis) : readAxisNo (beBytes 1 a.val) = some a := by
  rw [readAxisNo, ofLength_eq (beBytes_length ..), readNo_beBytes a (by decide)]

theorem readSlotNo_beBytes (n : SlotNo) : readSlotNo (beBytes 2 n.val) = some n := by
  rw [readSlotNo, ofLength_eq (beBytes_length ..), readNo_beBytes n (by decide)]

theorem readSector_beBytes (n : Fin 64) : readSector (beBytes 1 n.val) = some n := by
  rw [readSector, ofLength_eq (beBytes_length ..), readNo_beBytes n (by decide)]

theorem readTw_beBytes {x : Int} (h1 : -128 ≤ x) (h2 : x ≤ 127) : readTw (beBytes 1 x) = some x := by
  simp only [readTw, ofLength_eq (beBytes_length 1 x)]
  rw [beSigned_beBytes (by norm_num; omega) (by norm_num; omega)]

theorem readMarks_beBytes {n : Nat} (h : n < 256) : readMarks (beBytes 1 n) = some n := by
  simp only [readMarks, ofLength_eq (beBytes_length 1 (n : Int))]
  rw [beNat_beBytes_nat (by omega)]

theorem readReportInterval_ms (i : ReportEvery) : readReportInterval (beBytes 1 i.ms) = some (some i) := by
  cases i <;> decide

theorem readAxisSet_beBytes {n : Nat} (h0 : 0 < n) (h : n < 2 ^ 17) :
    readAxisSet (beBytes 3 n) = some ((List.finRange 17).filter fun a => n.testBit a.val) := by
  simp only [readAxisSet, ofLength_eq (beBytes_length 3 (n : Int)), beNat_beBytes_nat (k := 3) (n := n) (by omega)]
  rw [if_neg (by omega)]

/-! ### Payloads of several fields -/

theorem readSite_beBytes {lat lon : Int} (h1 : -2 ^ 31 ≤ lat) (h2 : lat < 2 ^ 31) :
    readSite (beBytes 4 lat ++ beBytes 4 lon) = some (lat, lon % 2 ^ 32) := by
  simp [readSite, ofLength, field_left, field_skip, field_all]
  constructor
  · exact beSigned_beBytes (by norm_num; omega) (by norm_num; omega)
  · rw [beUnsigned, beNat_beBytes]
    unfold wrap turn
    norm_num

theorem readCheck_beBytes {first count : Nat} (h1 : first < 256) (h2 : count < 256) :
    readCheck (beBytes 1 first ++ beBytes 1 count) = some (first, count) := by
  simp [readCheck, ofLength, field_left, field_skip, field_all, beNat_beBytes_nat (k := 1) (n := first) (by omega),
    beNat_beBytes_nat (k := 1) (n := count) (by omega)]

theorem readProtect_beBytes (n : Fin 64) (on : Bool) : readProtect (beBytes 1 n.val ++ [boolCode on]) = some (n, on) := by
  simp [readProtect, ofLength, field_left, field_skip, field_head, readNo_beBytes n, readOnOff_boolCode]

theorem readMove_bounded {a : Axis} {x : Int} {dir : Nat} {d : MoveDirection} (ha : bounded a = true) (h1 : -2 ^ 31 ≤ x)
    (h2 : x < 2 ^ 31) (hd : readMoveDirection (beBytes 1 dir) = some d) :
    readMove (beBytes 1 a.val ++ beBytes 4 x ++ beBytes 1 dir) = some (a, x, d) := by
  simp [readMove, ofLength, field_left, field_skip, field_all, List.append_assoc, readNo_beBytes a, hd, ha]
  exact beSigned_beBytes (by norm_num; omega) (by norm_num; omega)

theorem readMove_rotary {a : Axis} {x : Int} {dir : Nat} {d : MoveDirection} (ha : bounded a = false) (h1 : 0 ≤ x)
    (h2 : x < 2 ^ 32) (hd : readMoveDirection (beBytes 1 dir) = some d) :
    readMove (beBytes 1 a.val ++ beBytes 4 x ++ beBytes 1 dir) = some (a, x, d) := by
  simp [readMove, ofLength, field_left, field_skip, field_all, List.append_assoc, readNo_beBytes a, hd, ha]
  exact beUnsigned_beBytes h1 (by norm_num; omega)

theorem readAxisParam_beBytes (a : Axis) {code : Nat} (x : Int) (h : code < 256) :
    readAxisParam (beBytes 1 a.val ++ beBytes 1 code ++ beBytes 4 x) =
      (readParamValue (bounded a) code (beBytes 4 x)).map fun y => (a, y) := by
  simp [readAxisParam, ofLength, field_left, field_skip, field_all, List.append_assoc, readNo_beBytes a,
    beNat_beBytes_nat (k := 1) (n := code) (by omega)]

theorem readSnapshotEdit_beBytes (flag : Bool) {time : Int} (h1 : -2 ^ 63 ≤ time) (h2 : time < 2 ^ 63) :
    readSnapshotEdit (boolCode flag :: beBytes 8 time) = some (flag, time) := by
  simp [readSnapshotEdit, ofLength, field_head, field_tail, field_all, readOnOff_boolCode]
  exact beSigned_beBytes (by norm_num; omega) (by norm_num; omega)

/-- WATCH SET on the bytes of its fields, but for SKY TIME, INSIDE and PAUSE together, which it refuses. -/
theorem readWatchSet_beBytes (n : WatchNo) (scope : WatchScope) (subject : WatchSubject) (condition : WatchCondition)
    {reference width : Int} (action : WatchAction) (h1 : -2 ^ 63 ≤ reference) (h2 : reference < 2 ^ 63) (h3 : 0 ≤ width)
    (h4 : width < 2 ^ 32) (legal : ¬ (subject = .skyTime ∧ condition = .inside ∧ action = .pause)) :
    readWatchSet (beBytes 1 n.val ++ [scope.code, subject.code, condition.code] ++ beBytes 8 reference ++ beBytes 4 width ++
      [action.code]) =
      some { entry := n, scope := scope, subject := subject, condition := condition, reference := reference
             width := width, action := action } := by
  have e1 : readScope [scope.code] = some scope := by cases scope <;> rfl
  have e2 : readSubject [subject.code] = some subject := by
    rcases subject with _ | a
    · rfl
    · clear legal; revert a; decide
  have e3 : readCondition [condition.code] = some condition := by cases condition <;> rfl
  have e4 : readAction [action.code] = some action := by cases action <;> rfl
  have e5 : beSigned (beBytes 8 reference) = reference := beSigned_beBytes (by norm_num; omega) (by norm_num; omega)
  have e6 : beUnsigned (beBytes 4 width) = width := beUnsigned_beBytes h3 (by norm_num; omega)
  simp [readWatchSet, ofLength, List.append_assoc, field_left, field_skip, field_head, field_tail, readNo_beBytes n, e1, e2,
    e3, e4, e5, e6]
  exact fun h5 h6 h7 => legal ⟨h5, h6, h7⟩

theorem readGuardArm_ms (i : GuardInterval) (act : GuardAction) :
    readGuardArm (beBytes 2 i.ms ++ [act.code]) = some (i, act) := by
  cases i <;> cases act <;> decide

/-! ### The blank parameter record -/

/-- Thirty more bytes of 0xFF fed to the CRC, as a relation that chains. -/
theorem crcFeed_blank {r r' : Crc} {n : Nat} (front : crcFeed 0xFFFF#16 (List.replicate n 255) = r)
    (next : crcFeed r (List.replicate 30 255) = r') : crcFeed 0xFFFF#16 (List.replicate (n + 30) 255) = r' := by
  rw [List.replicate_add, crcFeed_append, front, next]

/-- The check value of 570 bytes of 0xFF is not 0xFFFF. -/
theorem crcOf_blank : crcOf (List.replicate 570 255) = 27837#16 := by
  have c1 := crcFeed_blank (n := 0) rfl (show _ = 24509#16 by decide +kernel)
  have c2 := crcFeed_blank c1 (show _ = 40138#16 by decide +kernel)
  have c3 := crcFeed_blank c2 (show _ = 882#16 by decide +kernel)
  have c4 := crcFeed_blank c3 (show _ = 16859#16 by decide +kernel)
  have c5 := crcFeed_blank c4 (show _ = 20726#16 by decide +kernel)
  have c6 := crcFeed_blank c5 (show _ = 54252#16 by decide +kernel)
  have c7 := crcFeed_blank c6 (show _ = 65148#16 by decide +kernel)
  have c8 := crcFeed_blank c7 (show _ = 56118#16 by decide +kernel)
  have c9 := crcFeed_blank c8 (show _ = 3569#16 by decide +kernel)
  have c10 := crcFeed_blank c9 (show _ = 45813#16 by decide +kernel)
  have c11 := crcFeed_blank c10 (show _ = 23454#16 by decide +kernel)
  have c12 := crcFeed_blank c11 (show _ = 22146#16 by decide +kernel)
  have c13 := crcFeed_blank c12 (show _ = 51386#16 by decide +kernel)
  have c14 := crcFeed_blank c13 (show _ = 3987#16 by decide +kernel)
  have c15 := crcFeed_blank c14 (show _ = 28742#16 by decide +kernel)
  have c16 := crcFeed_blank c15 (show _ = 31746#16 by decide +kernel)
  have c17 := crcFeed_blank c16 (show _ = 11554#16 by decide +kernel)
  have c18 := crcFeed_blank c17 (show _ = 15728#16 by decide +kernel)
  have c19 := crcFeed_blank c18 (show _ = 27837#16 by decide +kernel)
  exact c19

/-- A record of 0xFF carries no matching check, so start-up takes the built-in defaults (R68, R85). -/
theorem loadParams_blank : loadParams blankRecord = none := by
  have check : ¬ (blankRecord.length = 572 ∧ crcBytes (crcOf (blankRecord.take 570)) = blankRecord.drop 570) := by
    rw [blankRecord, List.take_replicate, List.drop_replicate]
    rw [show min 570 572 = 570 from rfl, show 572 - 570 = 2 from rfl, crcOf_blank]
    rintro ⟨-, h⟩
    revert h
    decide
  rw [loadParams, if_neg check]

end Sys2Proof.Machine
end

