-- ==== Sys2Proof/Laws/Forms.lean ====
section
/-! SUPPORT. The bytes of a field are the bytes of its value, and each reader of a grant-bound payload accepts exactly the
payloads of the form that Safety states (R200 to R202). -/

set_option Elab.async false

namespace Sys2Proof.Machine

open Sys2Proof.Safety

/-! ### Bytes from their value -/

theorem eq_of_beNat {x y : List Byte} (len : x.length = y.length) (value : beNat x = beNat y) : x = y := by
  induction x generalizing y with
  | nil => exact (List.length_eq_zero_iff.mp len.symm).symm
  | cons b rest ih =>
    cases y with
    | nil => simp at len
    | cons c rest' =>
      have len' : rest.length = rest'.length := by simpa using len
      rw [beNat_cons, beNat_cons, len'] at value
      have h1 := beNat_lt rest
      have h2 := beNat_lt rest'
      rw [len'] at h1
      have hb : b.toNat = c.toNat := by
        rcases lt_trichotomy b.toNat c.toNat with h | h | h
        · nlinarith [Nat.mul_le_mul_right (256 ^ rest'.length) (Nat.succ_le_of_lt h)]
        · exact h
        · nlinarith [Nat.mul_le_mul_right (256 ^ rest'.length) (Nat.succ_le_of_lt h)]
      rw [hb] at value
      rw [BitVec.eq_of_toNat_eq hb, ih len' (by omega)]

theorem beBytes_of_emod {k : Nat} {b : List Byte} {x : Int} (len : b.length = k) (value : x % 256 ^ k = (beNat b : Int)) :
    beBytes k x = b := by
  refine eq_of_beNat (by simp [len]) ?_
  have := beNat_beBytes k x
  omega

theorem beBytes_beUnsigned {k : Nat} {b : List Byte} (len : b.length = k) : beBytes k (beUnsigned b) = b := by
  refine beBytes_of_emod len ?_
  have := beNat_lt b
  rw [len] at this
  exact Int.emod_eq_of_lt (by unfold beUnsigned; omega) (by unfold beUnsigned; exact_mod_cast this)

theorem beBytes_beSigned {k : Nat} {b : List Byte} (len : b.length = k) : beBytes k (beSigned b) = b := by
  refine beBytes_of_emod len ?_
  have h := beNat_lt b
  rw [len] at h
  have small : ((beNat b : Nat) : Int) % 256 ^ k = beNat b := Int.emod_eq_of_lt (by omega) (by exact_mod_cast h)
  unfold beSigned
  rw [len]
  simp only
  split
  · exact small
  · rw [Int.sub_emod_right]; exact small

theorem beUnsigned_range {k : Nat} {b : List Byte} (len : b.length = k) : 0 ≤ beUnsigned b ∧ beUnsigned b < 256 ^ k := by
  have h := beNat_lt b
  rw [len] at h
  unfold beUnsigned
  exact ⟨by omega, by exact_mod_cast h⟩

theorem beSigned_range {k : Nat} {b : List Byte} (len : b.length = k) :
    -(256 ^ k) ≤ 2 * beSigned b ∧ 2 * beSigned b < 256 ^ k := by
  have h := beNat_lt b
  rw [len] at h
  have h' : (beNat b : Int) < 256 ^ k := by exact_mod_cast h
  unfold beSigned
  rw [len]
  simp only
  split
  · rename_i small
    have : (2 * (beNat b : Int)) < 256 ^ k := by exact_mod_cast small
    omega
  · rename_i large
    have : (256 : Int) ^ k ≤ 2 * (beNat b : Int) := by exact_mod_cast Nat.not_lt.mp large
    omega

theorem readNo_some {bound : Nat} {b : List Byte} {i : Fin bound} (h : readNo bound b = some i) : beNat b = i.val := by
  unfold readNo at h
  split at h
  · cases h; rfl
  · cases h

theorem beBytes_readNo {bound k : Nat} {b : List Byte} {i : Fin bound} (len : b.length = k) (h : readNo bound b = some i) :
    beBytes k (i.val : Int) = b := by
  rw [← readNo_some h]
  exact beBytes_beUnsigned len

/-- A payload cut at its fields. -/
theorem field_cut {p : List Byte} {m n : Nat} (len : p.length = m + n) : field p 0 m ++ field p m n = p := by
  unfold field
  rw [List.drop_zero]
  have : (p.drop m).take n = p.drop m := List.take_of_length_le (by simp [len])
  rw [this, List.take_append_drop]

theorem field_length {p : List Byte} {m n : Nat} (h : m + n ≤ p.length) : (field p m n).length = n := by
  unfold field; simp; omega

/-! ### The readers -/

theorem readAxisSet_form (p : List Byte) : readAxisSet p ≠ none ↔ AxisSetForm p := by
  constructor
  · intro h
    unfold readAxisSet ofLength at h
    simp only at h
    split at h
    · rename_i len
      split at h
      · exact absurd rfl h
      · rename_i range
        exact ⟨beNat p, by omega, by omega, (beBytes_beUnsigned len).symm⟩
    · exact absurd rfl h
  · rintro ⟨n, h0, h1, rfl⟩
    rw [readAxisSet_beBytes h0 h1]
    simp

/-- A segment record that is read fits its fields and stands in the bytes read. -/
theorem readSegmentRecord_some {b : List Byte} {g : Segment} (len : b.length = 26) (h : readSegmentRecord b = some g) :
    SegmentFits g ∧ segmentBytes g = b := by
  unfold readSegmentRecord at h
  cases hk : readNo 13 (field b 0 1) with
  | none => rw [hk] at h; cases h
  | some k =>
    rw [hk] at h
    simp only at h
    split at h
    · rename_i wf
      cases h
      constructor
      · have u1 := beUnsigned_range (b := field b 6 4) (field_length (by omega))
        have u2 := beUnsigned_range (b := field b 10 4) (field_length (by omega))
        have s1 := beSigned_range (b := field b 14 4) (field_length (by omega))
        have s2 := beSigned_range (b := field b 18 4) (field_length (by omega))
        have s3 := beSigned_range (b := field b 22 4) (field_length (by omega))
        unfold segmentWf segmentBound at wf
        unfold SegmentFits
        simp only [Bool.and_eq_true, decide_eq_true_eq] at wf ⊢
        norm_num at u1 u2 s1 s2 s3 wf ⊢
        omega
      · unfold segmentBytes
        simp only
        rw [beBytes_readNo (field_length (by omega)) hk, beBytes_beSigned (field_length (by omega)),
          beBytes_beUnsigned (field_length (by omega)), beBytes_beUnsigned (field_length (by omega)),
          beBytes_beSigned (field_length (by omega)), beBytes_beSigned (field_length (by omega)),
          beBytes_beSigned (field_length (by omega))]
        have cut (m n : Nat) : b.take m ++ field b m n = b.take (m + n) := by
          unfold field; rw [List.take_add]
        have first : field b 0 1 = b.take 1 := rfl
        rw [first, cut, cut, cut, cut, cut, cut]
        exact List.take_of_length_le (by omega)
    · cases h

end Sys2Proof.Machine
end

