-- ==== Sys2Proof/Laws/Table.lean ====
section
/-! SUPPORT. Laws of tables: the list forms are the library's, and reading an entry of each. -/

namespace Sys2Proof.Machine

theorem Table.map_eq {α β : Type} {n : Nat} (f : α → β) (v : Vector α n) : Table.map f v = v.map f := by
  apply Vector.ext
  intro i hi
  simp [Table.map]

theorem Table.build_eq {α : Type} {n : Nat} (f : Fin n → α) : Table.build f = Vector.ofFn f := by
  apply Vector.ext
  intro i hi
  simp [Table.build]

@[simp] theorem Table.get_map {α β : Type} {n : Nat} (f : α → β) (v : Vector α n) (i : Fin n) :
    (Table.map f v).get i = f (v.get i) := by
  simp [Table.map_eq, Vector.get_eq_getElem]

@[simp] theorem Table.get_build {α : Type} {n : Nat} (f : Fin n → α) (i : Fin n) : (Table.build f).get i = f i := by
  simp [Table.build_eq, Vector.get_eq_getElem]

@[simp] theorem Table.get_set_self {α : Type} {n : Nat} (v : Vector α n) (i : Fin n) (x : α) :
    (v.set i.val x i.isLt).get i = x := by
  simp [Vector.get_eq_getElem]

theorem Table.get_set_ne {α : Type} {n : Nat} (v : Vector α n) (i j : Fin n) (x : α) (h : j ≠ i) :
    (v.set i.val x i.isLt).get j = v.get j := by
  have : i.val ≠ j.val := fun e => h (Fin.ext e.symm)
  simp [Vector.get_eq_getElem, this]

theorem Table.get_set {α : Type} {n : Nat} (v : Vector α n) (i j : Fin n) (x : α) :
    (v.set i.val x i.isLt).get j = if j = i then x else v.get j := by
  by_cases h : j = i
  · subst h; simp
  · simp [h, Table.get_set_ne v i j x h]

@[simp] theorem Table.get_replicate {α : Type} {n : Nat} (x : α) (i : Fin n) : (Vector.replicate n x).get i = x := by
  simp [Vector.get_eq_getElem]

/-- Two tables are equal when every entry is. -/
theorem Table.ext {α : Type} {n : Nat} {v w : Vector α n} (h : ∀ i : Fin n, v.get i = w.get i) : v = w := by
  apply Vector.ext
  intro i hi
  exact h ⟨i, hi⟩

end Sys2Proof.Machine
end

