-- ==== Sys2Proof/Laws/State.lean ====
section
/-! SUPPORT. The laws of State's updates: one lemma for each field under each update, and reading one axis or one link
after an update. Each is true by unfolding; no later proof unfolds a record update. -/

namespace Sys2Proof.Machine

/-! ### setClock -/

@[simp] theorem State.setClock_clock (s : State) (x : Clock) : (s.setClock x).clock = x := rfl
@[simp] theorem State.setClock_ball (s : State) (x : Clock) : (s.setClock x).ball = s.ball := rfl
@[simp] theorem State.setClock_eph (s : State) (x : Clock) : (s.setClock x).eph = s.eph := rfl
@[simp] theorem State.setClock_patches (s : State) (x : Clock) : (s.setClock x).patches = s.patches := rfl
@[simp] theorem State.setClock_axes (s : State) (x : Clock) : (s.setClock x).axes = s.axes := rfl
@[simp] theorem State.setClock_store (s : State) (x : Clock) : (s.setClock x).store = s.store := rfl
@[simp] theorem State.setClock_thermal (s : State) (x : Clock) : (s.setClock x).thermal = s.thermal := rfl
@[simp] theorem State.setClock_holdCtl (s : State) (x : Clock) : (s.setClock x).holdCtl = s.holdCtl := rfl
@[simp] theorem State.setClock_watches (s : State) (x : Clock) : (s.setClock x).watches = s.watches := rfl
@[simp] theorem State.setClock_links (s : State) (x : Clock) : (s.setClock x).links = s.links := rfl
@[simp] theorem State.setClock_grant (s : State) (x : Clock) : (s.setClock x).grant = s.grant := rfl
@[simp] theorem State.setClock_pending (s : State) (x : Clock) : (s.setClock x).pending = s.pending := rfl

/-! ### setBall -/

@[simp] theorem State.setBall_clock (s : State) (x : StarBall) : (s.setBall x).clock = s.clock := rfl
@[simp] theorem State.setBall_ball (s : State) (x : StarBall) : (s.setBall x).ball = x := rfl
@[simp] theorem State.setBall_eph (s : State) (x : StarBall) : (s.setBall x).eph = s.eph := rfl
@[simp] theorem State.setBall_patches (s : State) (x : StarBall) : (s.setBall x).patches = s.patches := rfl
@[simp] theorem State.setBall_axes (s : State) (x : StarBall) : (s.setBall x).axes = s.axes := rfl
@[simp] theorem State.setBall_store (s : State) (x : StarBall) : (s.setBall x).store = s.store := rfl
@[simp] theorem State.setBall_thermal (s : State) (x : StarBall) : (s.setBall x).thermal = s.thermal := rfl
@[simp] theorem State.setBall_holdCtl (s : State) (x : StarBall) : (s.setBall x).holdCtl = s.holdCtl := rfl
@[simp] theorem State.setBall_watches (s : State) (x : StarBall) : (s.setBall x).watches = s.watches := rfl
@[simp] theorem State.setBall_links (s : State) (x : StarBall) : (s.setBall x).links = s.links := rfl
@[simp] theorem State.setBall_grant (s : State) (x : StarBall) : (s.setBall x).grant = s.grant := rfl
@[simp] theorem State.setBall_pending (s : State) (x : StarBall) : (s.setBall x).pending = s.pending := rfl

/-! ### setEph -/

@[simp] theorem State.setEph_clock (s : State) (x : Evaluator) : (s.setEph x).clock = s.clock := rfl
@[simp] theorem State.setEph_ball (s : State) (x : Evaluator) : (s.setEph x).ball = s.ball := rfl
@[simp] theorem State.setEph_eph (s : State) (x : Evaluator) : (s.setEph x).eph = x := rfl
@[simp] theorem State.setEph_patches (s : State) (x : Evaluator) : (s.setEph x).patches = s.patches := rfl
@[simp] theorem State.setEph_axes (s : State) (x : Evaluator) : (s.setEph x).axes = s.axes := rfl
@[simp] theorem State.setEph_store (s : State) (x : Evaluator) : (s.setEph x).store = s.store := rfl
@[simp] theorem State.setEph_thermal (s : State) (x : Evaluator) : (s.setEph x).thermal = s.thermal := rfl
@[simp] theorem State.setEph_holdCtl (s : State) (x : Evaluator) : (s.setEph x).holdCtl = s.holdCtl := rfl
@[simp] theorem State.setEph_watches (s : State) (x : Evaluator) : (s.setEph x).watches = s.watches := rfl
@[simp] theorem State.setEph_links (s : State) (x : Evaluator) : (s.setEph x).links = s.links := rfl
@[simp] theorem State.setEph_grant (s : State) (x : Evaluator) : (s.setEph x).grant = s.grant := rfl
@[simp] theorem State.setEph_pending (s : State) (x : Evaluator) : (s.setEph x).pending = s.pending := rfl

/-! ### setPatches -/

@[simp] theorem State.setPatches_clock (s : State) (x : Vector PatchEntry 8) : (s.setPatches x).clock = s.clock := rfl
@[simp] theorem State.setPatches_ball (s : State) (x : Vector PatchEntry 8) : (s.setPatches x).ball = s.ball := rfl
@[simp] theorem State.setPatches_eph (s : State) (x : Vector PatchEntry 8) : (s.setPatches x).eph = s.eph := rfl
@[simp] theorem State.setPatches_patches (s : State) (x : Vector PatchEntry 8) : (s.setPatches x).patches = x := rfl
@[simp] theorem State.setPatches_axes (s : State) (x : Vector PatchEntry 8) : (s.setPatches x).axes = s.axes := rfl
@[simp] theorem State.setPatches_store (s : State) (x : Vector PatchEntry 8) : (s.setPatches x).store = s.store := rfl
@[simp] theorem State.setPatches_thermal (s : State) (x : Vector PatchEntry 8) : (s.setPatches x).thermal = s.thermal := rfl
@[simp] theorem State.setPatches_holdCtl (s : State) (x : Vector PatchEntry 8) : (s.setPatches x).holdCtl = s.holdCtl := rfl
@[simp] theorem State.setPatches_watches (s : State) (x : Vector PatchEntry 8) : (s.setPatches x).watches = s.watches := rfl
@[simp] theorem State.setPatches_links (s : State) (x : Vector PatchEntry 8) : (s.setPatches x).links = s.links := rfl
@[simp] theorem State.setPatches_grant (s : State) (x : Vector PatchEntry 8) : (s.setPatches x).grant = s.grant := rfl
@[simp] theorem State.setPatches_pending (s : State) (x : Vector PatchEntry 8) : (s.setPatches x).pending = s.pending := rfl

/-! ### setAxes -/

@[simp] theorem State.setAxes_clock (s : State) (x : Vector AxisChannel 17) : (s.setAxes x).clock = s.clock := rfl
@[simp] theorem State.setAxes_ball (s : State) (x : Vector AxisChannel 17) : (s.setAxes x).ball = s.ball := rfl
@[simp] theorem State.setAxes_eph (s : State) (x : Vector AxisChannel 17) : (s.setAxes x).eph = s.eph := rfl
@[simp] theorem State.setAxes_patches (s : State) (x : Vector AxisChannel 17) : (s.setAxes x).patches = s.patches := rfl
@[simp] theorem State.setAxes_axes (s : State) (x : Vector AxisChannel 17) : (s.setAxes x).axes = x := rfl
@[simp] theorem State.setAxes_store (s : State) (x : Vector AxisChannel 17) : (s.setAxes x).store = s.store := rfl
@[simp] theorem State.setAxes_thermal (s : State) (x : Vector AxisChannel 17) : (s.setAxes x).thermal = s.thermal := rfl
@[simp] theorem State.setAxes_holdCtl (s : State) (x : Vector AxisChannel 17) : (s.setAxes x).holdCtl = s.holdCtl := rfl
@[simp] theorem State.setAxes_watches (s : State) (x : Vector AxisChannel 17) : (s.setAxes x).watches = s.watches := rfl
@[simp] theorem State.setAxes_links (s : State) (x : Vector AxisChannel 17) : (s.setAxes x).links = s.links := rfl
@[simp] theorem State.setAxes_grant (s : State) (x : Vector AxisChannel 17) : (s.setAxes x).grant = s.grant := rfl
@[simp] theorem State.setAxes_pending (s : State) (x : Vector AxisChannel 17) : (s.setAxes x).pending = s.pending := rfl

/-! ### setStore -/

@[simp] theorem State.setStore_clock (s : State) (x : Store) : (s.setStore x).clock = s.clock := rfl
@[simp] theorem State.setStore_ball (s : State) (x : Store) : (s.setStore x).ball = s.ball := rfl
@[simp] theorem State.setStore_eph (s : State) (x : Store) : (s.setStore x).eph = s.eph := rfl
@[simp] theorem State.setStore_patches (s : State) (x : Store) : (s.setStore x).patches = s.patches := rfl
@[simp] theorem State.setStore_axes (s : State) (x : Store) : (s.setStore x).axes = s.axes := rfl
@[simp] theorem State.setStore_store (s : State) (x : Store) : (s.setStore x).store = x := rfl
@[simp] theorem State.setStore_thermal (s : State) (x : Store) : (s.setStore x).thermal = s.thermal := rfl
@[simp] theorem State.setStore_holdCtl (s : State) (x : Store) : (s.setStore x).holdCtl = s.holdCtl := rfl
@[simp] theorem State.setStore_watches (s : State) (x : Store) : (s.setStore x).watches = s.watches := rfl
@[simp] theorem State.setStore_links (s : State) (x : Store) : (s.setStore x).links = s.links := rfl
@[simp] theorem State.setStore_grant (s : State) (x : Store) : (s.setStore x).grant = s.grant := rfl
@[simp] theorem State.setStore_pending (s : State) (x : Store) : (s.setStore x).pending = s.pending := rfl

/-! ### setThermal -/

@[simp] theorem State.setThermal_clock (s : State) (x : Thermal) : (s.setThermal x).clock = s.clock := rfl
@[simp] theorem State.setThermal_ball (s : State) (x : Thermal) : (s.setThermal x).ball = s.ball := rfl
@[simp] theorem State.setThermal_eph (s : State) (x : Thermal) : (s.setThermal x).eph = s.eph := rfl
@[simp] theorem State.setThermal_patches (s : State) (x : Thermal) : (s.setThermal x).patches = s.patches := rfl
@[simp] theorem State.setThermal_axes (s : State) (x : Thermal) : (s.setThermal x).axes = s.axes := rfl
@[simp] theorem State.setThermal_store (s : State) (x : Thermal) : (s.setThermal x).store = s.store := rfl
@[simp] theorem State.setThermal_thermal (s : State) (x : Thermal) : (s.setThermal x).thermal = x := rfl
@[simp] theorem State.setThermal_holdCtl (s : State) (x : Thermal) : (s.setThermal x).holdCtl = s.holdCtl := rfl
@[simp] theorem State.setThermal_watches (s : State) (x : Thermal) : (s.setThermal x).watches = s.watches := rfl
@[simp] theorem State.setThermal_links (s : State) (x : Thermal) : (s.setThermal x).links = s.links := rfl
@[simp] theorem State.setThermal_grant (s : State) (x : Thermal) : (s.setThermal x).grant = s.grant := rfl
@[simp] theorem State.setThermal_pending (s : State) (x : Thermal) : (s.setThermal x).pending = s.pending := rfl

/-! ### setHold -/

@[simp] theorem State.setHold_clock (s : State) (x : HoldCtl) : (s.setHold x).clock = s.clock := rfl
@[simp] theorem State.setHold_ball (s : State) (x : HoldCtl) : (s.setHold x).ball = s.ball := rfl
@[simp] theorem State.setHold_eph (s : State) (x : HoldCtl) : (s.setHold x).eph = s.eph := rfl
@[simp] theorem State.setHold_patches (s : State) (x : HoldCtl) : (s.setHold x).patches = s.patches := rfl
@[simp] theorem State.setHold_axes (s : State) (x : HoldCtl) : (s.setHold x).axes = s.axes := rfl
@[simp] theorem State.setHold_store (s : State) (x : HoldCtl) : (s.setHold x).store = s.store := rfl
@[simp] theorem State.setHold_thermal (s : State) (x : HoldCtl) : (s.setHold x).thermal = s.thermal := rfl
@[simp] theorem State.setHold_holdCtl (s : State) (x : HoldCtl) : (s.setHold x).holdCtl = x := rfl
@[simp] theorem State.setHold_watches (s : State) (x : HoldCtl) : (s.setHold x).watches = s.watches := rfl
@[simp] theorem State.setHold_links (s : State) (x : HoldCtl) : (s.setHold x).links = s.links := rfl
@[simp] theorem State.setHold_grant (s : State) (x : HoldCtl) : (s.setHold x).grant = s.grant := rfl
@[simp] theorem State.setHold_pending (s : State) (x : HoldCtl) : (s.setHold x).pending = s.pending := rfl

/-! ### setWatches -/

@[simp] theorem State.setWatches_clock (s : State) (x : Vector Watch 4) : (s.setWatches x).clock = s.clock := rfl
@[simp] theorem State.setWatches_ball (s : State) (x : Vector Watch 4) : (s.setWatches x).ball = s.ball := rfl
@[simp] theorem State.setWatches_eph (s : State) (x : Vector Watch 4) : (s.setWatches x).eph = s.eph := rfl
@[simp] theorem State.setWatches_patches (s : State) (x : Vector Watch 4) : (s.setWatches x).patches = s.patches := rfl
@[simp] theorem State.setWatches_axes (s : State) (x : Vector Watch 4) : (s.setWatches x).axes = s.axes := rfl
@[simp] theorem State.setWatches_store (s : State) (x : Vector Watch 4) : (s.setWatches x).store = s.store := rfl
@[simp] theorem State.setWatches_thermal (s : State) (x : Vector Watch 4) : (s.setWatches x).thermal = s.thermal := rfl
@[simp] theorem State.setWatches_holdCtl (s : State) (x : Vector Watch 4) : (s.setWatches x).holdCtl = s.holdCtl := rfl
@[simp] theorem State.setWatches_watches (s : State) (x : Vector Watch 4) : (s.setWatches x).watches = x := rfl
@[simp] theorem State.setWatches_links (s : State) (x : Vector Watch 4) : (s.setWatches x).links = s.links := rfl
@[simp] theorem State.setWatches_grant (s : State) (x : Vector Watch 4) : (s.setWatches x).grant = s.grant := rfl
@[simp] theorem State.setWatches_pending (s : State) (x : Vector Watch 4) : (s.setWatches x).pending = s.pending := rfl

/-! ### setLinks -/

@[simp] theorem State.setLinks_clock (s : State) (x : Links) : (s.setLinks x).clock = s.clock := rfl
@[simp] theorem State.setLinks_ball (s : State) (x : Links) : (s.setLinks x).ball = s.ball := rfl
@[simp] theorem State.setLinks_eph (s : State) (x : Links) : (s.setLinks x).eph = s.eph := rfl
@[simp] theorem State.setLinks_patches (s : State) (x : Links) : (s.setLinks x).patches = s.patches := rfl
@[simp] theorem State.setLinks_axes (s : State) (x : Links) : (s.setLinks x).axes = s.axes := rfl
@[simp] theorem State.setLinks_store (s : State) (x : Links) : (s.setLinks x).store = s.store := rfl
@[simp] theorem State.setLinks_thermal (s : State) (x : Links) : (s.setLinks x).thermal = s.thermal := rfl
@[simp] theorem State.setLinks_holdCtl (s : State) (x : Links) : (s.setLinks x).holdCtl = s.holdCtl := rfl
@[simp] theorem State.setLinks_watches (s : State) (x : Links) : (s.setLinks x).watches = s.watches := rfl
@[simp] theorem State.setLinks_links (s : State) (x : Links) : (s.setLinks x).links = x := rfl
@[simp] theorem State.setLinks_grant (s : State) (x : Links) : (s.setLinks x).grant = s.grant := rfl
@[simp] theorem State.setLinks_pending (s : State) (x : Links) : (s.setLinks x).pending = s.pending := rfl

/-! ### setGrant -/

@[simp] theorem State.setGrant_clock (s : State) (x : Arbiter) : (s.setGrant x).clock = s.clock := rfl
@[simp] theorem State.setGrant_ball (s : State) (x : Arbiter) : (s.setGrant x).ball = s.ball := rfl
@[simp] theorem State.setGrant_eph (s : State) (x : Arbiter) : (s.setGrant x).eph = s.eph := rfl
@[simp] theorem State.setGrant_patches (s : State) (x : Arbiter) : (s.setGrant x).patches = s.patches := rfl
@[simp] theorem State.setGrant_axes (s : State) (x : Arbiter) : (s.setGrant x).axes = s.axes := rfl
@[simp] theorem State.setGrant_store (s : State) (x : Arbiter) : (s.setGrant x).store = s.store := rfl
@[simp] theorem State.setGrant_thermal (s : State) (x : Arbiter) : (s.setGrant x).thermal = s.thermal := rfl
@[simp] theorem State.setGrant_holdCtl (s : State) (x : Arbiter) : (s.setGrant x).holdCtl = s.holdCtl := rfl
@[simp] theorem State.setGrant_watches (s : State) (x : Arbiter) : (s.setGrant x).watches = s.watches := rfl
@[simp] theorem State.setGrant_links (s : State) (x : Arbiter) : (s.setGrant x).links = s.links := rfl
@[simp] theorem State.setGrant_grant (s : State) (x : Arbiter) : (s.setGrant x).grant = x := rfl
@[simp] theorem State.setGrant_pending (s : State) (x : Arbiter) : (s.setGrant x).pending = s.pending := rfl

/-! ### One axis -/

@[simp] theorem State.setClock_axis (s : State) (x : Clock) (a : Axis) : (s.setClock x).axis a = s.axis a := rfl
@[simp] theorem State.setBall_axis (s : State) (x : StarBall) (a : Axis) : (s.setBall x).axis a = s.axis a := rfl
@[simp] theorem State.setEph_axis (s : State) (x : Evaluator) (a : Axis) : (s.setEph x).axis a = s.axis a := rfl
@[simp] theorem State.setPatches_axis (s : State) (x : Vector PatchEntry 8) (a : Axis) : (s.setPatches x).axis a = s.axis a := rfl
@[simp] theorem State.setStore_axis (s : State) (x : Store) (a : Axis) : (s.setStore x).axis a = s.axis a := rfl
@[simp] theorem State.setThermal_axis (s : State) (x : Thermal) (a : Axis) : (s.setThermal x).axis a = s.axis a := rfl
@[simp] theorem State.setHold_axis (s : State) (x : HoldCtl) (a : Axis) : (s.setHold x).axis a = s.axis a := rfl
@[simp] theorem State.setWatches_axis (s : State) (x : Vector Watch 4) (a : Axis) : (s.setWatches x).axis a = s.axis a := rfl
@[simp] theorem State.setLinks_axis (s : State) (x : Links) (a : Axis) : (s.setLinks x).axis a = s.axis a := rfl
@[simp] theorem State.setGrant_axis (s : State) (x : Arbiter) (a : Axis) : (s.setGrant x).axis a = s.axis a := rfl
@[simp] theorem State.setAxes_axis (s : State) (x : Vector AxisChannel 17) (a : Axis) : (s.setAxes x).axis a = x.get a := rfl

@[simp] theorem State.setAxis_clock (s : State) (a : Axis) (c : AxisChannel) : (s.setAxis a c).clock = s.clock := rfl
@[simp] theorem State.setAxis_ball (s : State) (a : Axis) (c : AxisChannel) : (s.setAxis a c).ball = s.ball := rfl
@[simp] theorem State.setAxis_eph (s : State) (a : Axis) (c : AxisChannel) : (s.setAxis a c).eph = s.eph := rfl
@[simp] theorem State.setAxis_patches (s : State) (a : Axis) (c : AxisChannel) : (s.setAxis a c).patches = s.patches := rfl
@[simp] theorem State.setAxis_store (s : State) (a : Axis) (c : AxisChannel) : (s.setAxis a c).store = s.store := rfl
@[simp] theorem State.setAxis_thermal (s : State) (a : Axis) (c : AxisChannel) : (s.setAxis a c).thermal = s.thermal := rfl
@[simp] theorem State.setAxis_holdCtl (s : State) (a : Axis) (c : AxisChannel) : (s.setAxis a c).holdCtl = s.holdCtl := rfl
@[simp] theorem State.setAxis_watches (s : State) (a : Axis) (c : AxisChannel) : (s.setAxis a c).watches = s.watches := rfl
@[simp] theorem State.setAxis_links (s : State) (a : Axis) (c : AxisChannel) : (s.setAxis a c).links = s.links := rfl
@[simp] theorem State.setAxis_grant (s : State) (a : Axis) (c : AxisChannel) : (s.setAxis a c).grant = s.grant := rfl
@[simp] theorem State.setAxis_pending (s : State) (a : Axis) (c : AxisChannel) : (s.setAxis a c).pending = s.pending := rfl

@[simp] theorem State.setAxis_axis_self (s : State) (a : Axis) (c : AxisChannel) : (s.setAxis a c).axis a = c :=
  Table.get_set_self s.axes a c

theorem State.setAxis_axis_ne (s : State) (a b : Axis) (c : AxisChannel) (h : b ≠ a) :
    (s.setAxis a c).axis b = s.axis b :=
  Table.get_set_ne s.axes a b c h

theorem State.setAxis_axis (s : State) (a b : Axis) (c : AxisChannel) :
    (s.setAxis a c).axis b = if b = a then c else s.axis b :=
  Table.get_set s.axes a b c

/-- An entry of the table of axes is the axis. -/
@[simp] theorem State.axes_get (s : State) (a : Axis) : s.axes.get a = s.axis a := rfl

/-- An entry of the links is the link. -/
@[simp] theorem State.links_get (s : State) (l : Link) : s.links.get l = s.link l := rfl

/-! ### One link -/

@[simp] theorem State.setClock_link (s : State) (x : Clock) (l : Link) : (s.setClock x).link l = s.link l := rfl
@[simp] theorem State.setBall_link (s : State) (x : StarBall) (l : Link) : (s.setBall x).link l = s.link l := rfl
@[simp] theorem State.setEph_link (s : State) (x : Evaluator) (l : Link) : (s.setEph x).link l = s.link l := rfl
@[simp] theorem State.setPatches_link (s : State) (x : Vector PatchEntry 8) (l : Link) : (s.setPatches x).link l = s.link l := rfl
@[simp] theorem State.setAxes_link (s : State) (x : Vector AxisChannel 17) (l : Link) : (s.setAxes x).link l = s.link l := rfl
@[simp] theorem State.setStore_link (s : State) (x : Store) (l : Link) : (s.setStore x).link l = s.link l := rfl
@[simp] theorem State.setThermal_link (s : State) (x : Thermal) (l : Link) : (s.setThermal x).link l = s.link l := rfl
@[simp] theorem State.setHold_link (s : State) (x : HoldCtl) (l : Link) : (s.setHold x).link l = s.link l := rfl
@[simp] theorem State.setWatches_link (s : State) (x : Vector Watch 4) (l : Link) : (s.setWatches x).link l = s.link l := rfl
@[simp] theorem State.setGrant_link (s : State) (x : Arbiter) (l : Link) : (s.setGrant x).link l = s.link l := rfl
@[simp] theorem State.setLinks_link (s : State) (x : Links) (l : Link) : (s.setLinks x).link l = x.get l := rfl
@[simp] theorem State.setAxis_link (s : State) (a : Axis) (c : AxisChannel) (l : Link) : (s.setAxis a c).link l = s.link l := rfl

@[simp] theorem State.setLink_clock (s : State) (l : Link) (x : LinkState) : (s.setLink l x).clock = s.clock := rfl
@[simp] theorem State.setLink_ball (s : State) (l : Link) (x : LinkState) : (s.setLink l x).ball = s.ball := rfl
@[simp] theorem State.setLink_eph (s : State) (l : Link) (x : LinkState) : (s.setLink l x).eph = s.eph := rfl
@[simp] theorem State.setLink_patches (s : State) (l : Link) (x : LinkState) : (s.setLink l x).patches = s.patches := rfl
@[simp] theorem State.setLink_axes (s : State) (l : Link) (x : LinkState) : (s.setLink l x).axes = s.axes := rfl
@[simp] theorem State.setLink_store (s : State) (l : Link) (x : LinkState) : (s.setLink l x).store = s.store := rfl
@[simp] theorem State.setLink_thermal (s : State) (l : Link) (x : LinkState) : (s.setLink l x).thermal = s.thermal := rfl
@[simp] theorem State.setLink_holdCtl (s : State) (l : Link) (x : LinkState) : (s.setLink l x).holdCtl = s.holdCtl := rfl
@[simp] theorem State.setLink_watches (s : State) (l : Link) (x : LinkState) : (s.setLink l x).watches = s.watches := rfl
@[simp] theorem State.setLink_grant (s : State) (l : Link) (x : LinkState) : (s.setLink l x).grant = s.grant := rfl
@[simp] theorem State.setLink_pending (s : State) (l : Link) (x : LinkState) : (s.setLink l x).pending = s.pending := rfl
@[simp] theorem State.setLink_axis (s : State) (l : Link) (x : LinkState) (a : Axis) : (s.setLink l x).axis a = s.axis a := rfl

theorem Links.get_set (x : Links) (l m : Link) (y : LinkState) : (x.set l y).get m = if m = l then y else x.get m := by
  cases l <;> cases m <;> rfl

@[simp] theorem Links.get_set_self (x : Links) (l : Link) (y : LinkState) : (x.set l y).get l = y := by
  cases l <;> rfl

@[simp] theorem Links.get_map (f : LinkState → LinkState) (x : Links) (l : Link) : (x.map f).get l = f (x.get l) := by
  cases l <;> rfl

@[simp] theorem State.setLink_link_self (s : State) (l : Link) (x : LinkState) : (s.setLink l x).link l = x :=
  Links.get_set_self s.links l x

theorem State.setLink_link (s : State) (l m : Link) (x : LinkState) :
    (s.setLink l x).link m = if m = l then x else s.link m :=
  Links.get_set s.links l m x

/-! ### Events -/

@[simp] theorem State.send_clock (s : State) (e : Event) : (s.send e).clock = s.clock := rfl
@[simp] theorem State.send_ball (s : State) (e : Event) : (s.send e).ball = s.ball := rfl
@[simp] theorem State.send_eph (s : State) (e : Event) : (s.send e).eph = s.eph := rfl
@[simp] theorem State.send_patches (s : State) (e : Event) : (s.send e).patches = s.patches := rfl
@[simp] theorem State.send_axes (s : State) (e : Event) : (s.send e).axes = s.axes := rfl
@[simp] theorem State.send_store (s : State) (e : Event) : (s.send e).store = s.store := rfl
@[simp] theorem State.send_thermal (s : State) (e : Event) : (s.send e).thermal = s.thermal := rfl
@[simp] theorem State.send_holdCtl (s : State) (e : Event) : (s.send e).holdCtl = s.holdCtl := rfl
@[simp] theorem State.send_watches (s : State) (e : Event) : (s.send e).watches = s.watches := rfl
@[simp] theorem State.send_grant (s : State) (e : Event) : (s.send e).grant = s.grant := rfl
@[simp] theorem State.send_pending (s : State) (e : Event) : (s.send e).pending = s.pending := rfl
@[simp] theorem State.send_axis (s : State) (e : Event) (a : Axis) : (s.send e).axis a = s.axis a := rfl

@[simp] theorem State.send_link (s : State) (e : Event) (l : Link) : (s.send e).link l = (s.link l).push e :=
  Links.get_map (LinkState.push e) s.links l

/-! ### Frames and replies -/

@[simp] theorem State.dropFrame_clock (s : State) (l : Link) : (s.dropFrame l).clock = s.clock := rfl
@[simp] theorem State.dropFrame_ball (s : State) (l : Link) : (s.dropFrame l).ball = s.ball := rfl
@[simp] theorem State.dropFrame_eph (s : State) (l : Link) : (s.dropFrame l).eph = s.eph := rfl
@[simp] theorem State.dropFrame_patches (s : State) (l : Link) : (s.dropFrame l).patches = s.patches := rfl
@[simp] theorem State.dropFrame_axes (s : State) (l : Link) : (s.dropFrame l).axes = s.axes := rfl
@[simp] theorem State.dropFrame_store (s : State) (l : Link) : (s.dropFrame l).store = s.store := rfl
@[simp] theorem State.dropFrame_thermal (s : State) (l : Link) : (s.dropFrame l).thermal = s.thermal := rfl
@[simp] theorem State.dropFrame_holdCtl (s : State) (l : Link) : (s.dropFrame l).holdCtl = s.holdCtl := rfl
@[simp] theorem State.dropFrame_watches (s : State) (l : Link) : (s.dropFrame l).watches = s.watches := rfl
@[simp] theorem State.dropFrame_grant (s : State) (l : Link) : (s.dropFrame l).grant = s.grant := rfl
@[simp] theorem State.dropFrame_pending (s : State) (l : Link) : (s.dropFrame l).pending = s.pending := rfl
@[simp] theorem State.dropFrame_axis (s : State) (l : Link) (a : Axis) : (s.dropFrame l).axis a = s.axis a := rfl

@[simp] theorem State.putReply_clock (s : State) (l : Link) (r : Reply) : (s.putReply l r).clock = s.clock := rfl
@[simp] theorem State.putReply_ball (s : State) (l : Link) (r : Reply) : (s.putReply l r).ball = s.ball := rfl
@[simp] theorem State.putReply_eph (s : State) (l : Link) (r : Reply) : (s.putReply l r).eph = s.eph := rfl
@[simp] theorem State.putReply_patches (s : State) (l : Link) (r : Reply) : (s.putReply l r).patches = s.patches := rfl
@[simp] theorem State.putReply_axes (s : State) (l : Link) (r : Reply) : (s.putReply l r).axes = s.axes := rfl
@[simp] theorem State.putReply_store (s : State) (l : Link) (r : Reply) : (s.putReply l r).store = s.store := rfl
@[simp] theorem State.putReply_thermal (s : State) (l : Link) (r : Reply) : (s.putReply l r).thermal = s.thermal := rfl
@[simp] theorem State.putReply_holdCtl (s : State) (l : Link) (r : Reply) : (s.putReply l r).holdCtl = s.holdCtl := rfl
@[simp] theorem State.putReply_watches (s : State) (l : Link) (r : Reply) : (s.putReply l r).watches = s.watches := rfl
@[simp] theorem State.putReply_grant (s : State) (l : Link) (r : Reply) : (s.putReply l r).grant = s.grant := rfl
@[simp] theorem State.putReply_pending (s : State) (l : Link) (r : Reply) : (s.putReply l r).pending = s.pending := rfl
@[simp] theorem State.putReply_axis (s : State) (l : Link) (r : Reply) (a : Axis) : (s.putReply l r).axis a = s.axis a := rfl

@[simp] theorem State.dropFrame_link_self (s : State) (l : Link) :
    (s.dropFrame l).link l = { s.link l with buffer := (s.link l).buffer.tail } :=
  State.setLink_link_self s l _

@[simp] theorem State.putReply_link_self (s : State) (l : Link) (r : Reply) :
    (s.putReply l r).link l = { s.link l with reply := some r } :=
  State.setLink_link_self s l _

/-! ### Whether the part is in hold, and the queue of commands -/

@[simp] theorem State.setClock_inHold (s : State) (x : Clock) : (s.setClock x).inHold = s.inHold := rfl
@[simp] theorem State.setBall_inHold (s : State) (x : StarBall) : (s.setBall x).inHold = s.inHold := rfl
@[simp] theorem State.setEph_inHold (s : State) (x : Evaluator) : (s.setEph x).inHold = s.inHold := rfl
@[simp] theorem State.setPatches_inHold (s : State) (x : Vector PatchEntry 8) : (s.setPatches x).inHold = s.inHold := rfl
@[simp] theorem State.setAxes_inHold (s : State) (x : Vector AxisChannel 17) : (s.setAxes x).inHold = s.inHold := rfl
@[simp] theorem State.setStore_inHold (s : State) (x : Store) : (s.setStore x).inHold = s.inHold := rfl
@[simp] theorem State.setThermal_inHold (s : State) (x : Thermal) : (s.setThermal x).inHold = s.inHold := rfl
@[simp] theorem State.setWatches_inHold (s : State) (x : Vector Watch 4) : (s.setWatches x).inHold = s.inHold := rfl
@[simp] theorem State.setLinks_inHold (s : State) (x : Links) : (s.setLinks x).inHold = s.inHold := rfl
@[simp] theorem State.setGrant_inHold (s : State) (x : Arbiter) : (s.setGrant x).inHold = s.inHold := rfl
@[simp] theorem State.dropFrame_inHold (s : State) (l : Link) : (s.dropFrame l).inHold = s.inHold := rfl
@[simp] theorem State.setAxis_inHold (s : State) (a : Axis) (c : AxisChannel) : (s.setAxis a c).inHold = s.inHold := rfl
@[simp] theorem State.setLink_inHold (s : State) (l : Link) (x : LinkState) : (s.setLink l x).inHold = s.inHold := rfl
@[simp] theorem State.send_inHold (s : State) (e : Event) : (s.send e).inHold = s.inHold := rfl
@[simp] theorem State.push_pending (s : State) (c : Instr) : (s.push c).pending = c :: s.pending := rfl

end Sys2Proof.Machine
end

