-- ==== Sys2Proof/Laws/Ops.lean ====
section
/-! SUPPORT. What each shared operation can do, said once: the taking of a request (R180), hold causes (R147 to R152), the
grant (R183 to R187) and the watch unit's testing of a change (R165 to R172). -/

namespace Sys2Proof.Machine

open Sys2Proof.Safety

/-! ### Taking a request -/

theorem take_ready {l : Link} {f : Frame} {handle : State → Handled} {s : State} (h : s.canTake l f = true) :
    take l f handle s =
      .next ((handle (s.dropFrame l)).state.putReply l
        { request := f.kind, status := (handle (s.dropFrame l)).status, data := (handle (s.dropFrame l)).data }) := by
  simp [take, h]

theorem take_waits {l : Link} {f : Frame} {handle : State → Handled} {s : State} (h : s.canTake l f = false) :
    take l f handle s = .next s := by
  simp [take, h]

/-- Everything a taking can do. -/
theorem take_next {l : Link} {f : Frame} {handle : State → Handled} {s t : State} (h : take l f handle s = .next t) :
    t = s ∨
      (s.canTake l f = true ∧
        t = (handle (s.dropFrame l)).state.putReply l
          { request := f.kind, status := (handle (s.dropFrame l)).status, data := (handle (s.dropFrame l)).data }) := by
  cases hc : s.canTake l f with
  | false => rw [take_waits hc] at h; cases h; exact .inl rfl
  | true => rw [take_ready hc] at h; cases h; exact .inr ⟨rfl, rfl⟩

/-- A taking always answers a next state. -/
theorem take_completes (l : Link) (f : Frame) (handle : State → Handled) (s : State) :
    ∃ t, take l f handle s = .next t := by
  cases hc : s.canTake l f with
  | false => exact ⟨s, take_waits hc⟩
  | true => exact ⟨_, take_ready hc⟩

/-- What being ready means: an empty reply slot, and the frame oldest in the buffer or handed over directly (R180). -/
theorem ready_iff {s : State} {l : Link} {kind : Byte} {p : List Byte} :
    Ready s l kind p ↔
      (s.link l).reply = none ∧ ((s.link l).buffer = [] ∨ ∃ rest, (s.link l).buffer = ⟨kind, p⟩ :: rest) := by
  unfold Ready State.canTake
  cases hr : (s.link l).reply <;> cases hb : (s.link l).buffer <;> simp

theorem needGrant_holder {s : State} {l : Link} {h : Handled} (hl : s.grant.holder = some l) : needGrant s l h = h := by
  simp [needGrant, hl]

theorem needGrant_other {s : State} {l : Link} {h : Handled} (hl : s.grant.holder ≠ some l) :
    needGrant s l h = answer s .notGranted := by
  simp [needGrant, hl]

theorem needNormal_normal {s : State} {h : Handled} (hn : s.inHold = false) : needNormal s h = h := by
  simp [needNormal, hn]

theorem needNormal_hold {s : State} {h : Handled} (hn : s.inHold = true) : needNormal s h = answer s .held := by
  simp [needNormal, hn]

/-! ### Hold causes -/

/-- Everything that handing over a cause can do (R147, R152). -/
theorem handCause_cases (s : State) (cause : HoldCause) :
    (∃ snap, s.holdCtl = .normal snap ∧ handCause s cause = enterHold s cause) ∨
    (∃ snap, s.holdCtl = .hold snap none ∧ handCause s cause = s.setHold (.hold snap (some cause))) ∨
    (∃ snap p, s.holdCtl = .hold snap (some p) ∧ handCause s cause = s) := by
  unfold handCause
  cases h : s.holdCtl with
  | normal snap => exact .inl ⟨snap, rfl, rfl⟩
  | hold snap p =>
    cases p with
    | none => exact .inr (.inl ⟨snap, rfl, rfl⟩)
    | some c => exact .inr (.inr ⟨snap, c, rfl, rfl⟩)

theorem handCause_normal {s : State} {cause : HoldCause} (h : s.inHold = false) : handCause s cause = enterHold s cause := by
  rcases handCause_cases s cause with ⟨_, _, h2⟩ | ⟨_, h1, _⟩ | ⟨_, _, h1, _⟩
  · exact h2
  · simp [State.inHold, h1] at h
  · simp [State.inHold, h1] at h

@[simp] theorem enterHold_holdCtl (s : State) (cause : HoldCause) :
    (enterHold s cause).holdCtl = .hold (takeSnapshot s cause) none := rfl
@[simp] theorem enterHold_clock (s : State) (cause : HoldCause) : (enterHold s cause).clock = s.clock.stop := rfl
@[simp] theorem enterHold_axis (s : State) (cause : HoldCause) (a : Axis) :
    (enterHold s cause).axis a = holdTreat (s.axis a) :=
  Table.get_map holdTreat s.axes a
@[simp] theorem enterHold_link (s : State) (cause : HoldCause) (l : Link) :
    (enterHold s cause).link l = (s.link l).push (.holdEntered cause s.clock.t) := by
  simp [enterHold]
@[simp] theorem enterHold_ball (s : State) (cause : HoldCause) : (enterHold s cause).ball = s.ball := rfl
@[simp] theorem enterHold_eph (s : State) (cause : HoldCause) : (enterHold s cause).eph = s.eph := rfl
@[simp] theorem enterHold_patches (s : State) (cause : HoldCause) : (enterHold s cause).patches = s.patches := rfl
@[simp] theorem enterHold_store (s : State) (cause : HoldCause) : (enterHold s cause).store = s.store := rfl
@[simp] theorem enterHold_thermal (s : State) (cause : HoldCause) : (enterHold s cause).thermal = s.thermal := rfl
@[simp] theorem enterHold_watches (s : State) (cause : HoldCause) : (enterHold s cause).watches = s.watches := rfl
@[simp] theorem enterHold_grant (s : State) (cause : HoldCause) : (enterHold s cause).grant = s.grant := rfl
@[simp] theorem enterHold_pending (s : State) (cause : HoldCause) : (enterHold s cause).pending = s.pending := rfl

@[simp] theorem handCause_ball (s : State) (cause : HoldCause) : (handCause s cause).ball = s.ball := by
  rcases handCause_cases s cause with ⟨_, _, h⟩ | ⟨_, _, h⟩ | ⟨_, _, _, h⟩ <;> simp [h]
@[simp] theorem handCause_eph (s : State) (cause : HoldCause) : (handCause s cause).eph = s.eph := by
  rcases handCause_cases s cause with ⟨_, _, h⟩ | ⟨_, _, h⟩ | ⟨_, _, _, h⟩ <;> simp [h]
@[simp] theorem handCause_patches (s : State) (cause : HoldCause) : (handCause s cause).patches = s.patches := by
  rcases handCause_cases s cause with ⟨_, _, h⟩ | ⟨_, _, h⟩ | ⟨_, _, _, h⟩ <;> simp [h]
@[simp] theorem handCause_store (s : State) (cause : HoldCause) : (handCause s cause).store = s.store := by
  rcases handCause_cases s cause with ⟨_, _, h⟩ | ⟨_, _, h⟩ | ⟨_, _, _, h⟩ <;> simp [h]
@[simp] theorem handCause_thermal (s : State) (cause : HoldCause) : (handCause s cause).thermal = s.thermal := by
  rcases handCause_cases s cause with ⟨_, _, h⟩ | ⟨_, _, h⟩ | ⟨_, _, _, h⟩ <;> simp [h]
@[simp] theorem handCause_watches (s : State) (cause : HoldCause) : (handCause s cause).watches = s.watches := by
  rcases handCause_cases s cause with ⟨_, _, h⟩ | ⟨_, _, h⟩ | ⟨_, _, _, h⟩ <;> simp [h]
@[simp] theorem handCause_grant (s : State) (cause : HoldCause) : (handCause s cause).grant = s.grant := by
  rcases handCause_cases s cause with ⟨_, _, h⟩ | ⟨_, _, h⟩ | ⟨_, _, _, h⟩ <;> simp [h]
@[simp] theorem handCause_pending (s : State) (cause : HoldCause) : (handCause s cause).pending = s.pending := by
  rcases handCause_cases s cause with ⟨_, _, h⟩ | ⟨_, _, h⟩ | ⟨_, _, _, h⟩ <;> simp [h]

/-! ### The grant -/

@[simp] theorem grantChange_grant (s : State) (h : Option Link) (q : List Link) (r : GrantReason) :
    (grantChange s h q r).grant = { holder := h, queue := q } := rfl
@[simp] theorem grantChange_watches (s : State) (h : Option Link) (q : List Link) (r : GrantReason) :
    (grantChange s h q r).watches = Table.map Watch.disableLocal s.watches := rfl
@[simp] theorem grantChange_link (s : State) (h : Option Link) (q : List Link) (r : GrantReason) (l : Link) :
    (grantChange s h q r).link l = (s.link l).push (.grant h s.grant.holder r (decide (r = .seize))) := by
  simp [grantChange]
@[simp] theorem grantChange_clock (s : State) (h : Option Link) (q : List Link) (r : GrantReason) : (grantChange s h q r).clock = s.clock := rfl
@[simp] theorem grantChange_ball (s : State) (h : Option Link) (q : List Link) (r : GrantReason) : (grantChange s h q r).ball = s.ball := rfl
@[simp] theorem grantChange_eph (s : State) (h : Option Link) (q : List Link) (r : GrantReason) : (grantChange s h q r).eph = s.eph := rfl
@[simp] theorem grantChange_patches (s : State) (h : Option Link) (q : List Link) (r : GrantReason) : (grantChange s h q r).patches = s.patches := rfl
@[simp] theorem grantChange_axes (s : State) (h : Option Link) (q : List Link) (r : GrantReason) : (grantChange s h q r).axes = s.axes := rfl
@[simp] theorem grantChange_store (s : State) (h : Option Link) (q : List Link) (r : GrantReason) : (grantChange s h q r).store = s.store := rfl
@[simp] theorem grantChange_thermal (s : State) (h : Option Link) (q : List Link) (r : GrantReason) : (grantChange s h q r).thermal = s.thermal := rfl
@[simp] theorem grantChange_holdCtl (s : State) (h : Option Link) (q : List Link) (r : GrantReason) : (grantChange s h q r).holdCtl = s.holdCtl := rfl
@[simp] theorem grantChange_pending (s : State) (h : Option Link) (q : List Link) (r : GrantReason) : (grantChange s h q r).pending = s.pending := rfl

/-- Everything that giving up the grant can do (R185). -/
theorem releaseGrant_cases (s : State) (r : GrantReason) :
    (s.grant.queue = [] ∧ releaseGrant s r = grantChange s none [] r) ∨
    (∃ q rest, s.grant.queue = q :: rest ∧ releaseGrant s r = grantChange s (some q) rest r) := by
  unfold releaseGrant
  cases h : s.grant.queue with
  | nil => exact .inl ⟨rfl, rfl⟩
  | cons q rest => exact .inr ⟨q, rest, rfl, rfl⟩

@[simp] theorem releaseGrant_clock (s : State) (r : GrantReason) : (releaseGrant s r).clock = s.clock := by
  rcases releaseGrant_cases s r with ⟨_, h⟩ | ⟨_, _, _, h⟩ <;> simp [h]
@[simp] theorem releaseGrant_ball (s : State) (r : GrantReason) : (releaseGrant s r).ball = s.ball := by
  rcases releaseGrant_cases s r with ⟨_, h⟩ | ⟨_, _, _, h⟩ <;> simp [h]
@[simp] theorem releaseGrant_eph (s : State) (r : GrantReason) : (releaseGrant s r).eph = s.eph := by
  rcases releaseGrant_cases s r with ⟨_, h⟩ | ⟨_, _, _, h⟩ <;> simp [h]
@[simp] theorem releaseGrant_patches (s : State) (r : GrantReason) : (releaseGrant s r).patches = s.patches := by
  rcases releaseGrant_cases s r with ⟨_, h⟩ | ⟨_, _, _, h⟩ <;> simp [h]
@[simp] theorem releaseGrant_axes (s : State) (r : GrantReason) : (releaseGrant s r).axes = s.axes := by
  rcases releaseGrant_cases s r with ⟨_, h⟩ | ⟨_, _, _, h⟩ <;> simp [h]
@[simp] theorem releaseGrant_store (s : State) (r : GrantReason) : (releaseGrant s r).store = s.store := by
  rcases releaseGrant_cases s r with ⟨_, h⟩ | ⟨_, _, _, h⟩ <;> simp [h]
@[simp] theorem releaseGrant_thermal (s : State) (r : GrantReason) : (releaseGrant s r).thermal = s.thermal := by
  rcases releaseGrant_cases s r with ⟨_, h⟩ | ⟨_, _, _, h⟩ <;> simp [h]
@[simp] theorem releaseGrant_holdCtl (s : State) (r : GrantReason) : (releaseGrant s r).holdCtl = s.holdCtl := by
  rcases releaseGrant_cases s r with ⟨_, h⟩ | ⟨_, _, _, h⟩ <;> simp [h]
@[simp] theorem releaseGrant_pending (s : State) (r : GrantReason) : (releaseGrant s r).pending = s.pending := by
  rcases releaseGrant_cases s r with ⟨_, h⟩ | ⟨_, _, _, h⟩ <;> simp [h]
@[simp] theorem releaseGrant_watches (s : State) (r : GrantReason) :
    (releaseGrant s r).watches = Table.map Watch.disableLocal s.watches := by
  rcases releaseGrant_cases s r with ⟨_, h⟩ | ⟨_, _, _, h⟩ <;> simp [h]

@[simp] theorem leaveQueue_grant (s : State) (l : Link) :
    (leaveQueue s l).grant = { s.grant with queue := s.grant.queue.erase l } := rfl
@[simp] theorem leaveQueue_clock (s : State) (l : Link) : (leaveQueue s l).clock = s.clock := rfl
@[simp] theorem leaveQueue_ball (s : State) (l : Link) : (leaveQueue s l).ball = s.ball := rfl
@[simp] theorem leaveQueue_eph (s : State) (l : Link) : (leaveQueue s l).eph = s.eph := rfl
@[simp] theorem leaveQueue_patches (s : State) (l : Link) : (leaveQueue s l).patches = s.patches := rfl
@[simp] theorem leaveQueue_axes (s : State) (l : Link) : (leaveQueue s l).axes = s.axes := rfl
@[simp] theorem leaveQueue_store (s : State) (l : Link) : (leaveQueue s l).store = s.store := rfl
@[simp] theorem leaveQueue_thermal (s : State) (l : Link) : (leaveQueue s l).thermal = s.thermal := rfl
@[simp] theorem leaveQueue_holdCtl (s : State) (l : Link) : (leaveQueue s l).holdCtl = s.holdCtl := rfl
@[simp] theorem leaveQueue_pending (s : State) (l : Link) : (leaveQueue s l).pending = s.pending := rfl
@[simp] theorem leaveQueue_links (s : State) (l : Link) : (leaveQueue s l).links = s.links := rfl
@[simp] theorem leaveQueue_watches (s : State) (l : Link) : (leaveQueue s l).watches = s.watches := rfl

/-! ### The watch unit -/

theorem sendWatch_clean (s : State) (i : WatchNo) :
    (∃ w, (s.watches.get i).definition = some w ∧ sendWatch s i = s.send (.watch i w.subject w.action)) ∨
    ((s.watches.get i).definition = none ∧ sendWatch s i = s) := by
  unfold sendWatch
  cases h : (s.watches.get i).definition with
  | none => exact .inr ⟨rfl, rfl⟩
  | some w => exact .inl ⟨w, rfl, rfl⟩

@[simp] theorem sendWatch_clock (s : State) (i : WatchNo) : (sendWatch s i).clock = s.clock := by
  rcases sendWatch_clean s i with ⟨_, _, h⟩ | ⟨_, h⟩ <;> simp [h]
@[simp] theorem foldl_sendWatch_clock (is : List WatchNo) (s : State) : (is.foldl sendWatch s).clock = s.clock := by
  induction is generalizing s with
  | nil => rfl
  | cons i is ih => simp [ih]
@[simp] theorem sendWatch_ball (s : State) (i : WatchNo) : (sendWatch s i).ball = s.ball := by
  rcases sendWatch_clean s i with ⟨_, _, h⟩ | ⟨_, h⟩ <;> simp [h]
@[simp] theorem foldl_sendWatch_ball (is : List WatchNo) (s : State) : (is.foldl sendWatch s).ball = s.ball := by
  induction is generalizing s with
  | nil => rfl
  | cons i is ih => simp [ih]
@[simp] theorem sendWatch_eph (s : State) (i : WatchNo) : (sendWatch s i).eph = s.eph := by
  rcases sendWatch_clean s i with ⟨_, _, h⟩ | ⟨_, h⟩ <;> simp [h]
@[simp] theorem foldl_sendWatch_eph (is : List WatchNo) (s : State) : (is.foldl sendWatch s).eph = s.eph := by
  induction is generalizing s with
  | nil => rfl
  | cons i is ih => simp [ih]
@[simp] theorem sendWatch_patches (s : State) (i : WatchNo) : (sendWatch s i).patches = s.patches := by
  rcases sendWatch_clean s i with ⟨_, _, h⟩ | ⟨_, h⟩ <;> simp [h]
@[simp] theorem foldl_sendWatch_patches (is : List WatchNo) (s : State) : (is.foldl sendWatch s).patches = s.patches := by
  induction is generalizing s with
  | nil => rfl
  | cons i is ih => simp [ih]
@[simp] theorem sendWatch_axes (s : State) (i : WatchNo) : (sendWatch s i).axes = s.axes := by
  rcases sendWatch_clean s i with ⟨_, _, h⟩ | ⟨_, h⟩ <;> simp [h]
@[simp] theorem foldl_sendWatch_axes (is : List WatchNo) (s : State) : (is.foldl sendWatch s).axes = s.axes := by
  induction is generalizing s with
  | nil => rfl
  | cons i is ih => simp [ih]
@[simp] theorem sendWatch_store (s : State) (i : WatchNo) : (sendWatch s i).store = s.store := by
  rcases sendWatch_clean s i with ⟨_, _, h⟩ | ⟨_, h⟩ <;> simp [h]
@[simp] theorem foldl_sendWatch_store (is : List WatchNo) (s : State) : (is.foldl sendWatch s).store = s.store := by
  induction is generalizing s with
  | nil => rfl
  | cons i is ih => simp [ih]
@[simp] theorem sendWatch_thermal (s : State) (i : WatchNo) : (sendWatch s i).thermal = s.thermal := by
  rcases sendWatch_clean s i with ⟨_, _, h⟩ | ⟨_, h⟩ <;> simp [h]
@[simp] theorem foldl_sendWatch_thermal (is : List WatchNo) (s : State) : (is.foldl sendWatch s).thermal = s.thermal := by
  induction is generalizing s with
  | nil => rfl
  | cons i is ih => simp [ih]
@[simp] theorem sendWatch_holdCtl (s : State) (i : WatchNo) : (sendWatch s i).holdCtl = s.holdCtl := by
  rcases sendWatch_clean s i with ⟨_, _, h⟩ | ⟨_, h⟩ <;> simp [h]
@[simp] theorem foldl_sendWatch_holdCtl (is : List WatchNo) (s : State) : (is.foldl sendWatch s).holdCtl = s.holdCtl := by
  induction is generalizing s with
  | nil => rfl
  | cons i is ih => simp [ih]
@[simp] theorem sendWatch_watches (s : State) (i : WatchNo) : (sendWatch s i).watches = s.watches := by
  rcases sendWatch_clean s i with ⟨_, _, h⟩ | ⟨_, h⟩ <;> simp [h]
@[simp] theorem foldl_sendWatch_watches (is : List WatchNo) (s : State) : (is.foldl sendWatch s).watches = s.watches := by
  induction is generalizing s with
  | nil => rfl
  | cons i is ih => simp [ih]
@[simp] theorem sendWatch_grant (s : State) (i : WatchNo) : (sendWatch s i).grant = s.grant := by
  rcases sendWatch_clean s i with ⟨_, _, h⟩ | ⟨_, h⟩ <;> simp [h]
@[simp] theorem foldl_sendWatch_grant (is : List WatchNo) (s : State) : (is.foldl sendWatch s).grant = s.grant := by
  induction is generalizing s with
  | nil => rfl
  | cons i is ih => simp [ih]
@[simp] theorem sendWatch_pending (s : State) (i : WatchNo) : (sendWatch s i).pending = s.pending := by
  rcases sendWatch_clean s i with ⟨_, _, h⟩ | ⟨_, h⟩ <;> simp [h]
@[simp] theorem foldl_sendWatch_pending (is : List WatchNo) (s : State) : (is.foldl sendWatch s).pending = s.pending := by
  induction is generalizing s with
  | nil => rfl
  | cons i is ih => simp [ih]

/-- A change tested: the marks and the WATCH events, the PAUSE, and then one hold cause or none (R170 to R172). -/
theorem observe_cases (s : State) (subject : WatchSubject) (ch : Change) :
    ∃ t : State,
      t = (((firedEntries s subject ch).foldl sendWatch
        (s.setWatches (Table.map (Watch.mark subject ch (!(firedEntries s subject ch).isEmpty)) s.watches))).setClock
          (pauseClock s.clock subject ch ((firedWith s subject ch .pause).map (watchReference s)))) ∧
      ((firedWith s subject ch .hold = [] ∧ observe s subject ch = t) ∨
       (∃ i rest, firedWith s subject ch .hold = i :: rest ∧ observe s subject ch = handCause t (.watch i))) := by
  refine ⟨_, rfl, ?_⟩
  unfold observe
  cases h : firedWith s subject ch .hold with
  | nil => exact .inl ⟨rfl, by simp⟩
  | cons i rest => exact .inr ⟨i, rest, rfl, by simp⟩

@[simp] theorem observe_ball (s : State) (subject : WatchSubject) (ch : Change) : (observe s subject ch).ball = s.ball := by
  obtain ⟨t, ht, ⟨_, h⟩ | ⟨_, _, _, h⟩⟩ := observe_cases s subject ch <;> (rw [h]; simp [ht])
@[simp] theorem observe_eph (s : State) (subject : WatchSubject) (ch : Change) : (observe s subject ch).eph = s.eph := by
  obtain ⟨t, ht, ⟨_, h⟩ | ⟨_, _, _, h⟩⟩ := observe_cases s subject ch <;> (rw [h]; simp [ht])
@[simp] theorem observe_patches (s : State) (subject : WatchSubject) (ch : Change) : (observe s subject ch).patches = s.patches := by
  obtain ⟨t, ht, ⟨_, h⟩ | ⟨_, _, _, h⟩⟩ := observe_cases s subject ch <;> (rw [h]; simp [ht])
@[simp] theorem observe_store (s : State) (subject : WatchSubject) (ch : Change) : (observe s subject ch).store = s.store := by
  obtain ⟨t, ht, ⟨_, h⟩ | ⟨_, _, _, h⟩⟩ := observe_cases s subject ch <;> (rw [h]; simp [ht])
@[simp] theorem observe_thermal (s : State) (subject : WatchSubject) (ch : Change) : (observe s subject ch).thermal = s.thermal := by
  obtain ⟨t, ht, ⟨_, h⟩ | ⟨_, _, _, h⟩⟩ := observe_cases s subject ch <;> (rw [h]; simp [ht])
@[simp] theorem observe_grant (s : State) (subject : WatchSubject) (ch : Change) : (observe s subject ch).grant = s.grant := by
  obtain ⟨t, ht, ⟨_, h⟩ | ⟨_, _, _, h⟩⟩ := observe_cases s subject ch <;> (rw [h]; simp [ht])
@[simp] theorem observe_pending (s : State) (subject : WatchSubject) (ch : Change) : (observe s subject ch).pending = s.pending := by
  obtain ⟨t, ht, ⟨_, h⟩ | ⟨_, _, _, h⟩⟩ := observe_cases s subject ch <;> (rw [h]; simp [ht])
@[simp] theorem observe_watches (s : State) (subject : WatchSubject) (ch : Change) :
    (observe s subject ch).watches =
      Table.map (Watch.mark subject ch (!(firedEntries s subject ch).isEmpty)) s.watches := by
  obtain ⟨t, ht, ⟨_, h⟩ | ⟨_, _, _, h⟩⟩ := observe_cases s subject ch <;> (rw [h]; simp [ht])

theorem Watch.mark_of_not {subject : WatchSubject} {ch : Change} {x : Watch} (someFired : Bool)
    (h : x.meets subject ch = false) : x.mark subject ch someFired = x := by
  have hf : x.fires subject ch = false := by
    unfold Watch.fires Watch.meets at *
    cases hd : x.definition with
    | none => rfl
    | some w => rw [hd] at h; simp_all
  simp [Watch.mark, hf, h]

theorem Watch.fires_of_not {subject : WatchSubject} {ch : Change} {x : Watch}
    (h : x.meets subject ch = false) : x.fires subject ch = false := by
  unfold Watch.fires Watch.meets at *
  cases hd : x.definition with
  | none => rfl
  | some w => rw [hd] at h; simp_all

/-- A change that meets no entry leaves everything as it is. -/
theorem observe_unmet {s : State} {subject : WatchSubject} {ch : Change}
    (h : ∀ i : WatchNo, (s.watches.get i).meets subject ch = false) : observe s subject ch = s := by
  have hf : firedEntries s subject ch = [] := by
    unfold firedEntries
    exact List.filter_eq_nil_iff.mpr (fun i _ => by simp [Watch.fires_of_not (h i)])
  have hw : ∀ action, firedWith s subject ch action = [] := fun action => by simp [firedWith, hf]
  have hm : Table.map (Watch.mark subject ch false) s.watches = s.watches :=
    Table.ext fun i => by simp [Watch.mark_of_not false (h i)]
  simp [observe, hf, hw, pauseClock, hm, State.setWatches, State.setClock]

/-- A change of a subject that no entry watches leaves everything as it is. -/
theorem observe_unwatched {s : State} {subject : WatchSubject} (ch : Change) (h : Unwatched s subject) :
    observe s subject ch = s := by
  apply observe_unmet
  intro i
  unfold Watch.meets
  cases hd : (s.watches.get i).definition with
  | none => rfl
  | some w => simp [h i w hd]

/-- A jump leaves everything as it is where no entry on sky time is INSIDE (R11, R165). -/
theorem skyJump_noInside {s : State} (old new : Int) (h : NoInsideOnSky s) : skyJump s old new = s := by
  apply observe_unmet
  intro i
  unfold Watch.meets
  cases hd : (s.watches.get i).definition with
  | none => rfl
  | some w =>
    by_cases hs : w.subject = .skyTime
    · have hc := h i w hd hs
      cases hw : w.condition <;> simp_all [conditionMet, upMet, downMet]
    · simp [hs]

/-- A change of nothing meets no condition (R167 to R169). -/
theorem conditionMet_still (w : WatchDef) (x : Int) : conditionMet w (.step x x) = false := by
  unfold conditionMet upMet downMet insideMet
  cases w.condition <;> simp

theorem observe_still (s : State) (subject : WatchSubject) (x : Int) : observe s subject (.step x x) = s := by
  apply observe_unmet
  intro i
  unfold Watch.meets
  cases (s.watches.get i).definition with
  | none => rfl
  | some w => simp [conditionMet_still]

end Sys2Proof.Machine
end

