-- ==== Sys2Proof/Laws/Motion.lean ====
section
/-! SUPPORT. What each stage of a profile update gives, in the terms of Safety (R96 to R105), and what the refusals of
axis sets find first (R108, R119). -/

set_option Elab.async false

namespace Sys2Proof.Machine

open Sys2Proof.Safety

/-! ### The manual's arithmetic in the library's terms -/

theorem sgn_eq_sign (x : Int) : sgn x = x.sign := by
  unfold sgn
  rcases lt_trichotomy x 0 with h | h | h
  · simp [h, Int.sign_eq_neg_one_of_neg h]
  · subst h; rfl
  · simp [show ¬ x < 0 by omega, h, Int.sign_eq_one_of_pos h]

theorem isqrt_eq_sqrt (n : Nat) : isqrt n = Nat.sqrt n := Nat.eq_sqrt.mpr (isqrt_spec n)

theorem shortError_eq_bmod (x p : Int) : shortError x p = Int.bmod (x - p) (2 ^ 32) := by
  unfold shortError turn halfTurn
  rw [Int.bmod_def]
  norm_num
  split_ifs <;> omega

/-! ### The stages of an update -/

theorem trackError_eq (a : Axis) (c : AxisChannel) (x : Int) :
    trackError a c x =
      (let short := Int.bmod (x - c.p) (2 ^ 32)
       let window := c.params.wrapLimit * 2 ^ 32
       if bounded a then clamp x c.params.travelMin c.params.travelMax - c.p
       else if 0 < c.params.wrapLimit ∧ (c.p + short < -window ∨ window < c.p + short) then short - short.sign * 2 ^ 32
       else short) := by
  unfold trackError channelTarget windowError
  rw [shortError_eq_bmod]
  generalize Int.bmod (x - c.p) (2 ^ 32) = e
  rw [show turn = 2 ^ 32 by decide]
  simp only
  split_ifs <;> (try rfl)
  · rw [Int.sign_eq_neg_one_of_neg (by assumption)]; omega
  · rw [Int.sign_eq_one_of_pos (by assumption)]; omega
  · have : e = 0 := by omega
    subst this; rfl

theorem moveToward_eq (c : AxisChannel) (vmax e : Int) :
    moveToward c e (desiredVelocity c.params.amax vmax e) =
      { c with p := (profileStep c.params.amax vmax c.v c.p e).1, v := (profileStep c.params.amax vmax c.v c.p e).2 } := by
  unfold moveToward desiredVelocity profileStep newVelocity arrives floorSqrt
  simp only [sgn_eq_sign, mag_eq, isqrt_eq_sqrt]
  generalize c.v + clamp (e.sign * min vmax ↑(Nat.sqrt (2 * c.params.amax * |e|).toNat) - c.v) (-c.params.amax)
    c.params.amax = v'
  by_cases h : e = 0 ∨ (v' ≠ 0 ∧ v'.sign = e.sign ∧ |e| ≤ |v'|)
  · rw [if_pos h, if_pos]; simpa [and_assoc] using h
  · rw [if_neg h, if_neg]; simpa [and_assoc] using h

theorem softClamp_eq (s : State) (a : Axis) (c : AxisChannel) :
    softClamp s a c =
      (sendLimit s a (limitTravel a c (c.p, c.v)).2.2,
       { c with p := (limitTravel a c (c.p, c.v)).1, v := (limitTravel a c (c.p, c.v)).2.1 }) := by
  unfold softClamp beyondTravel limitTravel clampTravel
  cases hr : c.referenced
  · simp [sendLimit]; cases c; cases hr; rfl
  · cases h : travelRange a c.params with
    | none => simp [sendLimit]; cases c; cases hr; rfl
    | some range =>
      obtain ⟨lo, hi⟩ := range
      by_cases h1 : c.p < lo
      · simp [h1, sendLimit, clamp]
      · by_cases h2 : hi < c.p
        · simp [h1, h2, sendLimit, clamp]
        · simp [h1, h2, sendLimit]; cases c; cases hr; rfl

theorem roleTarget_eq (s : State) (a : Axis) : roleTarget s a = roleOf s a := by
  unfold roleTarget roleOf
  by_cases h0 : a = 0
  · subst h0
    simp only [if_true, diurnalTarget, diurnalCoupled, gst0, siderealDay, turn, wrap, skyMs]
    norm_num
  by_cases h1 : a = 1
  · subst h1; rfl
  by_cases h2 : a = 2
  · subst h2; rfl
  simp only [if_neg h0, if_neg h1, if_neg h2]
  by_cases h6 : a = 6
  · subst h6; rfl
  simp only [if_neg h6]
  have : axisTrack a = some (Fin.ofNat 13 (if a.val ≤ 5 then a.val - 3 else a.val - 4)) := by revert a; decide
  simp only [this]

theorem restMode_move {c : AxisChannel} {x : Int} (h : c.mode = .move x) :
    restMode c = if c.p = x ∧ c.v = 0 then { c with mode := .parked } else c := by
  unfold restMode; rw [h]

theorem restMode_stopping {c : AxisChannel} {next : NextMode} :
    c.mode = .stopping next →
      restMode c = if c.v = 0 then { c with mode := match next with | .parked => .parked | .held => .held } else c := by
  intro h; unfold restMode; rw [h]; cases next <;> rfl

/-! ### What an evaluation and a sent event leave -/

@[simp] theorem sendLimit_watches (s : State) (a : Axis) (side : Option Side) : (sendLimit s a side).watches = s.watches := by
  cases side <;> rfl
@[simp] theorem sendLimit_axis (s : State) (a b : Axis) (side : Option Side) : (sendLimit s a side).axis b = s.axis b := by
  cases side <;> rfl

@[simp] theorem evaluateTrack_axis (s : State) (k : Track) (a : Axis) : (evaluateTrack s k).axis a = s.axis a := by
  unfold evaluateTrack sendSourceChange; simp only; split <;> rfl
@[simp] theorem evaluateTrack_watches (s : State) (k : Track) : (evaluateTrack s k).watches = s.watches := by
  unfold evaluateTrack sendSourceChange; simp only; split <;> rfl
@[simp] theorem evaluateTrack_thermal (s : State) (k : Track) : (evaluateTrack s k).thermal = s.thermal := by
  unfold evaluateTrack sendSourceChange; simp only; split <;> rfl

/-- The update of MOON PHASE leaves all but the evaluator and the links as its two evaluations leave it (R48). -/
theorem evaluatePhase_cases (s : State) :
    evaluatePhase s = evaluateTrack (evaluateTrack s 1) 0 ∨
      ∃ phase, evaluatePhase s =
        (evaluateTrack (evaluateTrack s 1) 0).setEph { (evaluateTrack (evaluateTrack s 1) 0).eph with phase := phase } := by
  unfold evaluatePhase
  simp only
  split
  · exact .inr ⟨_, rfl⟩
  · exact .inl rfl

@[simp] theorem evaluatePhase_axis (s : State) (a : Axis) : (evaluatePhase s).axis a = s.axis a := by
  rcases evaluatePhase_cases s with h | ⟨_, h⟩ <;> simp [h]
@[simp] theorem evaluatePhase_watches (s : State) : (evaluatePhase s).watches = s.watches := by
  rcases evaluatePhase_cases s with h | ⟨_, h⟩ <;> simp [h]
@[simp] theorem evaluatePhase_thermal (s : State) : (evaluatePhase s).thermal = s.thermal := by
  rcases evaluatePhase_cases s with h | ⟨_, h⟩ <;> simp [h]

@[simp] theorem roleOf_axis (s : State) (a b : Axis) : (roleOf s a).1.axis b = s.axis b := by
  unfold roleOf; split_ifs <;> simp
@[simp] theorem roleOf_watches (s : State) (a : Axis) : (roleOf s a).1.watches = s.watches := by
  unfold roleOf; split_ifs <;> simp
@[simp] theorem roleOf_thermal (s : State) (a : Axis) : (roleOf s a).1.thermal = s.thermal := by
  unfold roleOf; split_ifs <;> simp

theorem observeAxis_unwatched {s : State} {a : Axis} (old new : Int) (h : Unwatched s (.axis a)) :
    observeAxis s a old new = s :=
  observe_unwatched _ h

theorem State.setAxis_self (s : State) (a : Axis) : s.setAxis a (s.axis a) = s := by
  have same : s.axes.set a.val (s.axes.get a) a.isLt = s.axes := Table.ext fun i => by
    rw [Table.get_set]; split
    · subst_vars; rfl
    · rfl
  unfold State.setAxis State.setAxes State.axis
  rw [same]

/-! ### The first axis of a set that a check refuses -/

theorem firstRefusal_none {s : State} {check : AxisChannel → Option Status} {set : Axis → Bool}
    (passed : ∀ a, set a = true → check (s.axis a) = none) :
    firstRefusal s check ((List.finRange 17).filter set) = none := by
  have all : ∀ axes : List Axis, (∀ a ∈ axes, check (s.axis a) = none) → firstRefusal s check axes = none := by
    intro axes
    induction axes with
    | nil => intro _; rfl
    | cons a rest ih =>
      intro h
      unfold firstRefusal
      rw [h a (by simp)]
      exact ih fun b hb => h b (by simp [hb])
  exact all _ fun a ha => passed a (by simpa using ha)

theorem firstRefusal_some {s : State} {check : AxisChannel → Option Status} {set : Axis → Bool} {a : Axis} {st : Status}
    (member : set a = true) (refused : check (s.axis a) = some st)
    (before : ∀ b, b < a → set b = true → check (s.axis b) = none) :
    firstRefusal s check ((List.finRange 17).filter set) = some (a, st) := by
  have all : ∀ axes : List Axis, axes.Pairwise (· < ·) → a ∈ axes →
      firstRefusal s check (axes.filter set) = some (a, st) := by
    intro axes
    induction axes with
    | nil => simp
    | cons b rest ih =>
      intro sorted ha
      rw [List.pairwise_cons] at sorted
      rcases List.mem_cons.mp ha with rfl | ha
      · simp only [List.filter_cons, member, if_true, firstRefusal, refused]
      · by_cases hb : set b = true
        · simp only [List.filter_cons, hb, if_true, firstRefusal, before b (sorted.1 a ha) hb]
          exact ih sorted.2 ha
        · simp only [List.filter_cons, hb]
          exact ih sorted.2 ha
  exact all _ (by decide) (by simp)

end Sys2Proof.Machine
end

