-- ==== Sys2Proof/Laws/PerInstr.lean ====
section
/-! SUPPORT. What is shown command by command: the frame of a well-formed request is one that a line can carry. -/

set_option Elab.async false

namespace Sys2Proof.Laws

/-- The frame that a well-formed command takes has at most 250 payload bytes (R178, R200). -/
def Frames.Statement (i : Instr) : Prop :=
  ∀ l k p, i.wf = true → i.frame? = some (l, k, p) → p.length ≤ Config.maxPayload

theorem Frames.of_fits {i : Instr} {p : List Byte} (hp : ∀ l k q, i.frame? = some (l, k, q) → q = p)
    (h : i.wf = true → payloadFits p = true) : Frames.Statement i := by
  intro l k q hw hf
  have := h hw
  rw [hp l k q hf]
  simpa [payloadFits] using this

theorem Frames.of_none {i : Instr} (h : i.frame? = none) : Frames.Statement i := by
  intro l k p _ hf
  rw [h] at hf
  cases hf

theorem Frames.deviceReset (trips : List Axis) (switches : List (Axis × Side)) : Frames.Statement (.deviceReset trips switches) :=
  Frames.of_none rfl
theorem Frames.clockStep : Frames.Statement .clockStep :=
  Frames.of_none rfl
theorem Frames.profileUpdate (a : Axis) : Frames.Statement (.profileUpdate a) :=
  Frames.of_none rfl
theorem Frames.indexEdge (a : Axis) : Frames.Statement (.indexEdge a) :=
  Frames.of_none rfl
theorem Frames.qualifiedTrip (x : TripSeen) : Frames.Statement (.qualifiedTrip x) :=
  Frames.of_none rfl
theorem Frames.endSwitch (a : Axis) (side : Side) : Frames.Statement (.endSwitch a side) :=
  Frames.of_none rfl
theorem Frames.retryExpiry (a : Axis) (line : Bool) : Frames.Statement (.retryExpiry a line) :=
  Frames.of_none rfl
theorem Frames.tripWindowExpiry (a : Axis) : Frames.Statement (.tripWindowExpiry a) :=
  Frames.of_none rfl
theorem Frames.thermalSample (celsius : Int) : Frames.Statement (.thermalSample celsius) :=
  Frames.of_none rfl
theorem Frames.writeCompletion (result : CellResult) : Frames.Statement (.writeCompletion result) :=
  Frames.of_none rfl
theorem Frames.eraseCompletion (result : CellResult) : Frames.Statement (.eraseCompletion result) :=
  Frames.of_none rfl
theorem Frames.checkSectorCovered : Frames.Statement .checkSectorCovered :=
  Frames.of_none rfl
theorem Frames.saveErasePhaseEnd (result : CellResult) : Frames.Statement (.saveErasePhaseEnd result) :=
  Frames.of_none rfl
theorem Frames.saveWritePhaseEnd (result : CellResult) : Frames.Statement (.saveWritePhaseEnd result) :=
  Frames.of_none rfl
theorem Frames.frameArrival (l : Link) (kind : Byte) (payload : List Byte) : Frames.Statement (.frameArrival l kind payload) :=
  Frames.of_none rfl
theorem Frames.transmitStart (l : Link) : Frames.Statement (.transmitStart l) :=
  Frames.of_none rfl
theorem Frames.reportEvent (l : Link) : Frames.Statement (.reportEvent l) :=
  Frames.of_none rfl
theorem Frames.guardExpiry (l : Link) : Frames.Statement (.guardExpiry l) :=
  Frames.of_none rfl
theorem Frames.nonRequestKind (l : Link) (kind : Byte) (payload : List Byte) : Frames.Statement (.nonRequestKind l kind payload) :=
  Frames.of_fits (p := payload) (by simp [Instr.frame?]) (by intro h; simp only [Instr.wf, Bool.and_eq_true] at h; exact h.1)
theorem Frames.setRate (l : Link) (payload : List Byte) : Frames.Statement (.setRate l payload) :=
  Frames.of_fits (p := payload) (by simp [Instr.frame?]) (fun h => h)
theorem Frames.setTime (l : Link) (payload : List Byte) : Frames.Statement (.setTime l payload) :=
  Frames.of_fits (p := payload) (by simp [Instr.frame?]) (fun h => h)
theorem Frames.nudge (l : Link) (payload : List Byte) : Frames.Statement (.nudge l payload) :=
  Frames.of_fits (p := payload) (by simp [Instr.frame?]) (fun h => h)
theorem Frames.setSite (l : Link) (payload : List Byte) : Frames.Statement (.setSite l payload) :=
  Frames.of_fits (p := payload) (by simp [Instr.frame?]) (fun h => h)
theorem Frames.coupleOff (l : Link) (payload : List Byte) : Frames.Statement (.coupleOff l payload) :=
  Frames.of_fits (p := payload) (by simp [Instr.frame?]) (by intro h; simp only [Instr.wf, Bool.and_eq_true] at h; exact h.1)
theorem Frames.coupleOn (l : Link) (payload : List Byte) : Frames.Statement (.coupleOn l payload) :=
  Frames.of_fits (p := payload) (by simp [Instr.frame?]) (by intro h; simp only [Instr.wf, beq_iff_eq] at h; simp [h, payloadFits, Config.maxPayload])
theorem Frames.readTrack (l : Link) (payload : List Byte) : Frames.Statement (.readTrack l payload) :=
  Frames.of_fits (p := payload) (by simp [Instr.frame?]) (fun h => h)
theorem Frames.patchSet (l : Link) (payload : List Byte) : Frames.Statement (.patchSet l payload) :=
  Frames.of_fits (p := payload) (by simp [Instr.frame?]) (fun h => h)
theorem Frames.patchEnable (l : Link) (payload : List Byte) : Frames.Statement (.patchEnable l payload) :=
  Frames.of_fits (p := payload) (by simp [Instr.frame?]) (fun h => h)
theorem Frames.patchDisable (l : Link) (payload : List Byte) : Frames.Statement (.patchDisable l payload) :=
  Frames.of_fits (p := payload) (by simp [Instr.frame?]) (fun h => h)
theorem Frames.patchRead (l : Link) (payload : List Byte) : Frames.Statement (.patchRead l payload) :=
  Frames.of_fits (p := payload) (by simp [Instr.frame?]) (fun h => h)
theorem Frames.segmentWrite (l : Link) (payload : List Byte) : Frames.Statement (.segmentWrite l payload) :=
  Frames.of_fits (p := payload) (by simp [Instr.frame?]) (fun h => h)
theorem Frames.sectorErase (l : Link) (payload : List Byte) : Frames.Statement (.sectorErase l payload) :=
  Frames.of_fits (p := payload) (by simp [Instr.frame?]) (fun h => h)
theorem Frames.eraseSuspend (l : Link) (payload : List Byte) : Frames.Statement (.eraseSuspend l payload) :=
  Frames.of_fits (p := payload) (by simp [Instr.frame?]) (fun h => h)
theorem Frames.eraseResume (l : Link) (payload : List Byte) : Frames.Statement (.eraseResume l payload) :=
  Frames.of_fits (p := payload) (by simp [Instr.frame?]) (fun h => h)
theorem Frames.sectorCheck (l : Link) (payload : List Byte) : Frames.Statement (.sectorCheck l payload) :=
  Frames.of_fits (p := payload) (by simp [Instr.frame?]) (fun h => h)
theorem Frames.saveParameters (l : Link) (payload : List Byte) : Frames.Statement (.saveParameters l payload) :=
  Frames.of_fits (p := payload) (by simp [Instr.frame?]) (fun h => h)
theorem Frames.readSegment (l : Link) (payload : List Byte) : Frames.Statement (.readSegment l payload) :=
  Frames.of_fits (p := payload) (by simp [Instr.frame?]) (fun h => h)
theorem Frames.protect (l : Link) (payload : List Byte) : Frames.Statement (.protect l payload) :=
  Frames.of_fits (p := payload) (by simp [Instr.frame?]) (fun h => h)
theorem Frames.track (l : Link) (payload : List Byte) : Frames.Statement (.track l payload) :=
  Frames.of_fits (p := payload) (by simp [Instr.frame?]) (fun h => h)
theorem Frames.move (l : Link) (payload : List Byte) : Frames.Statement (.move l payload) :=
  Frames.of_fits (p := payload) (by simp [Instr.frame?]) (fun h => h)
theorem Frames.park (l : Link) (payload : List Byte) : Frames.Statement (.park l payload) :=
  Frames.of_fits (p := payload) (by simp [Instr.frame?]) (fun h => h)
theorem Frames.setAxisParam (l : Link) (payload : List Byte) : Frames.Statement (.setAxisParam l payload) :=
  Frames.of_fits (p := payload) (by simp [Instr.frame?]) (fun h => h)
theorem Frames.readAxis (l : Link) (payload : List Byte) : Frames.Statement (.readAxis l payload) :=
  Frames.of_fits (p := payload) (by simp [Instr.frame?]) (fun h => h)
theorem Frames.home (l : Link) (payload : List Byte) : Frames.Statement (.home l payload) :=
  Frames.of_fits (p := payload) (by simp [Instr.frame?]) (fun h => h)
theorem Frames.clearFault (l : Link) (payload : List Byte) (lines : Lines) : Frames.Statement (.clearFault l payload lines) :=
  Frames.of_fits (p := payload) (by simp [Instr.frame?]) (fun h => h)
theorem Frames.setThermalLimit (l : Link) (payload : List Byte) : Frames.Statement (.setThermalLimit l payload) :=
  Frames.of_fits (p := payload) (by simp [Instr.frame?]) (fun h => h)
theorem Frames.hold (l : Link) (payload : List Byte) : Frames.Statement (.hold l payload) :=
  Frames.of_fits (p := payload) (by simp [Instr.frame?]) (fun h => h)
theorem Frames.resume (l : Link) (payload : List Byte) : Frames.Statement (.resume l payload) :=
  Frames.of_fits (p := payload) (by simp [Instr.frame?]) (fun h => h)
theorem Frames.snapshotRead (l : Link) (payload : List Byte) : Frames.Statement (.snapshotRead l payload) :=
  Frames.of_fits (p := payload) (by simp [Instr.frame?]) (fun h => h)
theorem Frames.snapshotEdit (l : Link) (payload : List Byte) : Frames.Statement (.snapshotEdit l payload) :=
  Frames.of_fits (p := payload) (by simp [Instr.frame?]) (fun h => h)
theorem Frames.watchSet (l : Link) (payload : List Byte) : Frames.Statement (.watchSet l payload) :=
  Frames.of_fits (p := payload) (by simp [Instr.frame?]) (fun h => h)
theorem Frames.watchEnable (l : Link) (payload : List Byte) : Frames.Statement (.watchEnable l payload) :=
  Frames.of_fits (p := payload) (by simp [Instr.frame?]) (fun h => h)
theorem Frames.watchDisable (l : Link) (payload : List Byte) : Frames.Statement (.watchDisable l payload) :=
  Frames.of_fits (p := payload) (by simp [Instr.frame?]) (fun h => h)
theorem Frames.watchClear (l : Link) (payload : List Byte) : Frames.Statement (.watchClear l payload) :=
  Frames.of_fits (p := payload) (by simp [Instr.frame?]) (fun h => h)
theorem Frames.watchStatus (l : Link) (payload : List Byte) : Frames.Statement (.watchStatus l payload) :=
  Frames.of_fits (p := payload) (by simp [Instr.frame?]) (fun h => h)
theorem Frames.watchAcknowledge (l : Link) (payload : List Byte) : Frames.Statement (.watchAcknowledge l payload) :=
  Frames.of_fits (p := payload) (by simp [Instr.frame?]) (fun h => h)
theorem Frames.grantRequest (l : Link) (payload : List Byte) : Frames.Statement (.grantRequest l payload) :=
  Frames.of_fits (p := payload) (by simp [Instr.frame?]) (fun h => h)
theorem Frames.grantRelease (l : Link) (payload : List Byte) : Frames.Statement (.grantRelease l payload) :=
  Frames.of_fits (p := payload) (by simp [Instr.frame?]) (fun h => h)
theorem Frames.grantSeize (l : Link) (payload : List Byte) : Frames.Statement (.grantSeize l payload) :=
  Frames.of_fits (p := payload) (by simp [Instr.frame?]) (fun h => h)
theorem Frames.guardArm (l : Link) (payload : List Byte) : Frames.Statement (.guardArm l payload) :=
  Frames.of_fits (p := payload) (by simp [Instr.frame?]) (fun h => h)
theorem Frames.reportInterval (l : Link) (payload : List Byte) : Frames.Statement (.reportInterval l payload) :=
  Frames.of_fits (p := payload) (by simp [Instr.frame?]) (fun h => h)
theorem Frames.readStatus (l : Link) (payload : List Byte) : Frames.Statement (.readStatus l payload) :=
  Frames.of_fits (p := payload) (by simp [Instr.frame?]) (fun h => h)
theorem Frames.linkReset (l : Link) (payload : List Byte) : Frames.Statement (.linkReset l payload) :=
  Frames.of_fits (p := payload) (by simp [Instr.frame?]) (fun h => h)
theorem Frames.characterReceived (l : Link) (char : Byte) (fault : Bool) : Frames.Statement (.characterReceived l char fault) :=
  Frames.of_none rfl

end Sys2Proof.Laws
end

