-- ==== Sys2Proof/Laws/Slots.lean ====
section
/-! SUPPORT. The laws of the store's slots: read after write, and that every operation keeps the canonical form. -/

namespace Sys2Proof.Machine

/-- In a list that starts at `low`, a lower number reads EMPTY. -/
theorem SlotMap.read_below {m : List (Nat × SlotState)} {low n : Nat} (h : SlotMap.wfFrom low m = true) (hn : n < low) :
    SlotMap.read m n = .empty := by
  induction m generalizing low with
  | nil => rfl
  | cons x rest ih =>
    obtain ⟨k, st⟩ := x
    simp only [SlotMap.wfFrom, Bool.and_eq_true, decide_eq_true_eq] at h
    have : k ≠ n := by omega
    simp only [SlotMap.read, this, if_false]
    exact ih h.2 (by omega)

theorem SlotMap.wfFrom_mono {m : List (Nat × SlotState)} {low low' : Nat} (h : SlotMap.wfFrom low m = true)
    (hl : low' ≤ low) : SlotMap.wfFrom low' m = true := by
  cases m with
  | nil => rfl
  | cons x rest =>
    obtain ⟨k, st⟩ := x
    simp only [SlotMap.wfFrom, Bool.and_eq_true, decide_eq_true_eq] at h ⊢
    exact ⟨⟨⟨by omega, h.1.1.2⟩, h.1.2⟩, h.2⟩

theorem SlotMap.wfFrom_cons {rest : List (Nat × SlotState)} {low n : Nat} {st : SlotState}
    (h : SlotMap.wfFrom (n + 1) rest = true) (hl : low ≤ n) (hn : n < 2016) :
    SlotMap.wfFrom low (SlotMap.cons n st rest) = true := by
  cases st with
  | empty => exact SlotMap.wfFrom_mono h (by omega)
  | filled g => simp [SlotMap.cons, SlotMap.wfFrom, h, hl, hn]
  | spoiled => simp [SlotMap.cons, SlotMap.wfFrom, h, hl, hn]

theorem SlotMap.write_wfFrom {m : List (Nat × SlotState)} {low n : Nat} {st : SlotState}
    (h : SlotMap.wfFrom low m = true) (hl : low ≤ n) (hn : n < 2016) :
    SlotMap.wfFrom low (SlotMap.write m n st) = true := by
  induction m generalizing low with
  | nil => exact SlotMap.wfFrom_cons rfl hl hn
  | cons x rest ih =>
    obtain ⟨k, old⟩ := x
    have h' := h
    simp only [SlotMap.wfFrom, Bool.and_eq_true, decide_eq_true_eq] at h
    unfold SlotMap.write
    split
    · apply SlotMap.wfFrom_cons _ hl hn
      simp only [SlotMap.wfFrom, Bool.and_eq_true, decide_eq_true_eq]
      exact ⟨⟨⟨by omega, h.1.1.2⟩, h.1.2⟩, h.2⟩
    · split
      · subst_vars
        exact SlotMap.wfFrom_cons h.2 hl hn
      · simp only [SlotMap.wfFrom, Bool.and_eq_true, decide_eq_true_eq]
        exact ⟨h.1, ih h.2 (by omega)⟩

/-- Writing a slot keeps the canonical form. -/
theorem SlotMap.write_wf {m : List (Nat × SlotState)} {n : Nat} {st : SlotState} (h : SlotMap.wf m = true)
    (hn : n < 2016) : SlotMap.wf (SlotMap.write m n st) = true :=
  SlotMap.write_wfFrom h (Nat.zero_le n) hn

theorem SlotMap.read_cons_self {rest : List (Nat × SlotState)} {n : Nat} {st : SlotState}
    (h : SlotMap.wfFrom (n + 1) rest = true) : SlotMap.read (SlotMap.cons n st rest) n = st := by
  cases st with
  | empty => exact SlotMap.read_below h (by omega)
  | filled g => simp [SlotMap.cons, SlotMap.read]
  | spoiled => simp [SlotMap.cons, SlotMap.read]

theorem SlotMap.read_cons_ne {rest : List (Nat × SlotState)} {n k : Nat} {st : SlotState} (h : k ≠ n) :
    SlotMap.read (SlotMap.cons n st rest) k = SlotMap.read rest k := by
  cases st <;> simp [SlotMap.cons, SlotMap.read, Ne.symm h]

theorem SlotMap.read_write_from {m : List (Nat × SlotState)} {low n k : Nat} {st : SlotState}
    (h : SlotMap.wfFrom low m = true) :
    SlotMap.read (SlotMap.write m n st) k = if k = n then st else SlotMap.read m k := by
  induction m generalizing low with
  | nil =>
    by_cases hk : k = n
    · subst hk; simp [SlotMap.write, SlotMap.read_cons_self (rest := []) rfl]
    · simp [SlotMap.write, SlotMap.read_cons_ne hk, hk]
  | cons x rest ih =>
    obtain ⟨j, old⟩ := x
    have h' := h
    simp only [SlotMap.wfFrom, Bool.and_eq_true, decide_eq_true_eq] at h
    unfold SlotMap.write
    split
    · by_cases hk : k = n
      · subst hk
        rw [SlotMap.read_cons_self]
        · simp
        · simp only [SlotMap.wfFrom, Bool.and_eq_true, decide_eq_true_eq]
          exact ⟨⟨⟨by omega, h.1.1.2⟩, h.1.2⟩, h.2⟩
      · rw [SlotMap.read_cons_ne hk]; simp [hk]
    · split
      · subst_vars
        by_cases hk : k = j
        · subst hk; rw [SlotMap.read_cons_self h.2]; simp
        · rw [SlotMap.read_cons_ne hk]; simp [SlotMap.read, hk, Ne.symm hk]
      · by_cases hj : j = k
        · subst hj
          have : j ≠ n := by omega
          simp [SlotMap.read, this]
        · simp [SlotMap.read, hj, ih h.2]

/-- Read after write: the slot written reads as written, every other as before. -/
theorem SlotMap.read_write {m : List (Nat × SlotState)} {n k : Nat} {st : SlotState} (h : SlotMap.wf m = true) :
    SlotMap.read (SlotMap.write m n st) k = if k = n then st else SlotMap.read m k :=
  SlotMap.read_write_from h

theorem SlotMap.writeRange_wf {m : List (Nat × SlotState)} {first count : Nat} {st : SlotState} (h : SlotMap.wf m = true)
    (hn : first + count ≤ 2016) : SlotMap.wf (SlotMap.writeRange m first st count) = true := by
  induction count generalizing m first with
  | zero => exact h
  | succ count ih => exact ih (SlotMap.write_wf h (by omega)) (by omega)

/-- Setting a sector keeps the canonical form. -/
theorem SlotMap.writeSector_wf {m : List (Nat × SlotState)} {sector : SectorNo} {st : SlotState}
    (h : SlotMap.wf m = true) : SlotMap.wf (SlotMap.writeSector m sector st) = true :=
  SlotMap.writeRange_wf h (by omega)

theorem SlotMap.read_writeRange {m : List (Nat × SlotState)} {first count k : Nat} {st : SlotState}
    (h : SlotMap.wf m = true) (hn : first + count ≤ 2016) :
    SlotMap.read (SlotMap.writeRange m first st count) k =
      if first ≤ k ∧ k < first + count then st else SlotMap.read m k := by
  induction count generalizing m first with
  | zero =>
    have : ¬ (first ≤ k ∧ k < first) := by omega
    simp [SlotMap.writeRange, this]
  | succ count ih =>
    unfold SlotMap.writeRange
    rw [ih (SlotMap.write_wf h (by omega)) (by omega), SlotMap.read_write h]
    by_cases h1 : first + 1 ≤ k ∧ k < first + 1 + count
    · rw [if_pos h1, if_pos (by omega)]
    · rw [if_neg h1]
      by_cases h2 : k = first
      · rw [if_pos h2, if_pos (by omega)]
      · rw [if_neg h2, if_neg (by omega)]

/-- The 32 slots of the sector read as set, every other slot as before (R67, R76). -/
theorem SlotMap.read_writeSector {m : List (Nat × SlotState)} {sector : SectorNo} {k : Nat} {st : SlotState}
    (h : SlotMap.wf m = true) :
    SlotMap.read (SlotMap.writeSector m sector st) k = if slotSector k = sector.val then st else SlotMap.read m k := by
  unfold SlotMap.writeSector
  rw [SlotMap.read_writeRange h (by omega)]
  have : (32 * sector.val ≤ k ∧ k < 32 * sector.val + 32) ↔ slotSector k = sector.val := by
    unfold slotSector; omega
  simp [this]

end Sys2Proof.Machine
end

