-- ==== Sys2Proof/Laws/Trips.lean ====
section
/-! SUPPORT. What the trip filter and the handling of a trip can do, in the terms of the statements (R132 to R138). -/

set_option Elab.async false

namespace Sys2Proof.Machine

open Sys2Proof.Safety

/-- An axis channel written twice is the one written last. -/
@[simp] theorem State.setAxis_setAxis (s : State) (a : Axis) (c d : AxisChannel) :
    (s.setAxis a c).setAxis a d = s.setAxis a d := by
  unfold State.setAxis State.setAxes
  simp

theorem us_eq_filterMicros (width : TripFilter) : TripFilter.us width = (filterMicros width : Int) := by
  cases width <;> rfl

/-- A trip as MANUAL on a channel just written (R138). -/
theorem manualTrip_setAxis (s : State) (a : Axis) (c : AxisChannel) : manualTrip (s.setAxis a c) a = tripFaults s a c := by
  unfold manualTrip
  simp only [State.setAxis_axis_self, State.setAxis_setAxis]
  rfl

/-- A counted trip on a channel just written: the wait at the first and second of a count, the fault at the third (R134). -/
theorem retryTrip_setAxis (s : State) (a : Axis) (c : AxisChannel) (prior : PriorMode) (few : c.tripCount ≤ 3) :
    retryTrip (s.setAxis a c) a prior = if c.tripCount < 2 then waits s a prior (counted c) else tripFaults s a (counted c) := by
  unfold retryTrip
  have early : (countTrip c).tripCount < 3 ↔ c.tripCount < 2 := by
    simp only [countTrip]
    omega
  simp only [State.setAxis_axis_self, early, State.setAxis_setAxis]
  split
  · rfl
  · exact manualTrip_setAxis s a (countTrip c)

/-- A trip line told of by a command (R132): a trip once the width held has passed, before that the width kept, and
nothing where no width is held. -/
theorem tripSeen_cases (s : State) (x : TripSeen) :
    (∃ width, latchedWidth (s.axis x.axis) x.anew = some width ∧ filterMicros width ≤ x.us ∧
      tripSeen s x = tripped (s.setTripLine x.axis .qualified) x.axis) ∨
    (∃ width, latchedWidth (s.axis x.axis) x.anew = some width ∧ x.us < filterMicros width ∧
      tripSeen s x = s.setTripLine x.axis (.filtering width)) ∨
    (latchedWidth (s.axis x.axis) x.anew = none ∧ tripSeen s x = s) := by
  unfold tripSeen
  cases h : latchedWidth (s.axis x.axis) x.anew with
  | none => exact .inr (.inr ⟨rfl, rfl⟩)
  | some width =>
    by_cases past : filterMicros width ≤ x.us
    · refine .inl ⟨width, rfl, past, if_pos ?_⟩
      rw [us_eq_filterMicros]
      exact_mod_cast past
    · refine .inr (.inl ⟨width, rfl, Nat.lt_of_not_le past, if_neg ?_⟩)
      rw [us_eq_filterMicros]
      exact_mod_cast past

end Sys2Proof.Machine
end

