-- ==== Sys2Proof/Laws/Update.lean ====
section
/-! SUPPORT. The stages of a profile update read no watch entry: with other entries they give the same, and the entries
stand (R95 to R105, R120). -/

set_option Elab.async false

namespace Sys2Proof.Machine

theorem ite_setWatches (c : Prop) [Decidable c] (s t : State) (watches : Vector Watch 4) :
    (if c then s else t).setWatches watches = if c then s.setWatches watches else t.setWatches watches := by
  split <;> rfl

theorem evaluateTrack_setWatches (s : State) (watches : Vector Watch 4) (k : Track) :
    evaluateTrack (s.setWatches watches) k = (evaluateTrack s k).setWatches watches := by
  unfold evaluateTrack sendSourceChange
  simp only [ite_setWatches]
  rfl

theorem evaluatePhase_setWatches (s : State) (watches : Vector Watch 4) :
    evaluatePhase (s.setWatches watches) = (evaluatePhase s).setWatches watches := by
  unfold evaluatePhase
  simp only [evaluateTrack_setWatches, ite_setWatches]
  rfl

theorem roleTarget_setWatches (s : State) (watches : Vector Watch 4) (a : Axis) :
    roleTarget (s.setWatches watches) a = ((roleTarget s a).1.setWatches watches, (roleTarget s a).2) := by
  unfold roleTarget
  split_ifs
  · rfl
  · rfl
  · rfl
  · cases axisTrack a with
    | none =>
      simp only [evaluatePhase_setWatches]
      rfl
    | some k =>
      simp only [evaluateTrack_setWatches]
      rfl

theorem softClamp_setWatches (s : State) (watches : Vector Watch 4) (a : Axis) (c : AxisChannel) :
    softClamp (s.setWatches watches) a c = ((softClamp s a c).1.setWatches watches, (softClamp s a c).2) := by
  unfold softClamp
  split <;> rfl

theorem lagTest_setWatches (s : State) (watches : Vector Watch 4) (a : Axis) (c : AxisChannel) (e : Int) :
    lagTest (s.setWatches watches) a c e = ((lagTest s a c e).1.setWatches watches, (lagTest s a c e).2) := by
  unfold lagTest
  split_ifs <;> rfl

theorem homingEnd_setWatches (s : State) (watches : Vector Watch 4) (a : Axis) (c : AxisChannel) (h : HomingRecord)
    (moved vmax : Int) : homingEnd (s.setWatches watches) a c h moved vmax =
      ((homingEnd s a c h moved vmax).1.setWatches watches, (homingEnd s a c h moved vmax).2) := by
  unfold homingEnd homingFault settled homingFault
  simp only
  split
  · rfl
  · cases h.phase <;> simp only <;> split_ifs <;> rfl

/-- The stages of an update with other watch entries. -/
theorem updateStages_setWatches (s : State) (watches : Vector Watch 4) (a : Axis) :
    updateStages (s.setWatches watches) a = (updateStages s a).map fun y => (y.1.setWatches watches, y.2) := by
  unfold updateStages
  have axis : ∀ b, (s.setWatches watches).axis b = s.axis b := fun _ => rfl
  have own : ∀ x, ownStages (s.setWatches watches) a x = ((ownStages s a x).1.setWatches watches, (ownStages s a x).2) := by
    intro x
    unfold ownStages
    simp only [softClamp_setWatches, axis]
    rfl
  have stopping :
      stoppingStages (s.setWatches watches) a = ((stoppingStages s a).1.setWatches watches, (stoppingStages s a).2) := by
    unfold stoppingStages
    simp only [softClamp_setWatches, axis]
  have track : trackStages (s.setWatches watches) a = ((trackStages s a).1.setWatches watches, (trackStages s a).2) := by
    unfold trackStages
    simp only [roleTarget_setWatches, softClamp_setWatches, lagTest_setWatches]
    rfl
  have homing : ∀ h,
      homingStages (s.setWatches watches) a h = ((homingStages s a h).1.setWatches watches, (homingStages s a h).2) := by
    intro h
    unfold homingStages
    simp only [homingEnd_setWatches, axis]
    rfl
  rw [axis]
  cases (s.axis a).mode <;> simp [own, stopping, track, homing]

/-- The stages of an update leave every watch entry. -/
theorem updateStages_watches {s : State} {a : Axis} {y : State × AxisChannel} (h : updateStages s a = some y) :
    y.1.watches = s.watches := by
  have same := updateStages_setWatches s s.watches a
  rw [show s.setWatches s.watches = s from rfl, h] at same
  simpa using congrArg (fun z => z.1.watches) (Option.some.inj same)

end Sys2Proof.Machine
end

