-- ==== Sys2Proof/Laws/Watch.lean ====
section
/-! SUPPORT. What the watch unit makes of a change, said once in the terms of Safety (R165 to R172). -/

set_option Elab.async false

namespace Sys2Proof.Machine

open Sys2Proof.Safety

/-! ### The conditions -/

theorem conditionMet_step (w : WatchDef) (x y : Int) : conditionMet w (.step x y) = true ↔ StepMeets w x y := by
  unfold conditionMet StepMeets upMet downMet insideMet insideLinear
  cases w.condition <;> simp
  omega

theorem conditionMet_jump (w : WatchDef) (x y : Int) : conditionMet w (.jump x y) = true ↔ JumpMeets w x y := by
  unfold conditionMet JumpMeets StepMeets upMet downMet insideMet insideLinear
  cases h : w.condition <;> simp
  omega

theorem conditionMet_around (w : WatchDef) (x y : Int) :
    conditionMet w (.around (wrap x) (y - x)) = true ↔ TurnMeets w x y := by
  have inside (z : Int) : (z % 2 ^ 32 - w.reference) % 2 ^ 32 = (z - w.reference) % 2 ^ 32 := Int.emod_sub_emod z _ _
  have moved : (x % 2 ^ 32 + (y - x)) % 2 ^ 32 = y % 2 ^ 32 := by omega
  have turns : turn = 2 ^ 32 := by decide
  unfold conditionMet TurnMeets upMet downMet insideMet insideTurn wrap
  simp only [turns, moved, inside]
  cases w.condition <;> simp <;> omega

/-! ### The entries that fire -/

theorem fires_iff {ch : Change} {meets : WatchDef → Prop} (hm : ∀ w, conditionMet w ch = true ↔ meets w) (s : State)
    (subject : WatchSubject) (i : WatchNo) :
    (s.watches.get i).fires subject ch = true ↔ ∃ w, Fires s subject meets i w := by
  unfold Watch.fires Fires
  cases hd : (s.watches.get i).definition with
  | none => simp
  | some w => simp [hm, and_assoc]

theorem meets_iff {ch : Change} {meets : WatchDef → Prop} (hm : ∀ w, conditionMet w ch = true ↔ meets w) (s : State)
    (subject : WatchSubject) (i : WatchNo) :
    (s.watches.get i).meets subject ch = true ↔ (∃ w, Fires s subject meets i w) ∨ Stirs s subject meets i := by
  unfold Watch.meets Fires Stirs
  cases hd : (s.watches.get i).definition with
  | none => simp
  | some w => simp [hm]; cases w.enabled <;> simp

theorem mem_firedEntries {ch : Change} {meets : WatchDef → Prop} (hm : ∀ w, conditionMet w ch = true ↔ meets w) (s : State)
    (subject : WatchSubject) (i : WatchNo) : i ∈ firedEntries s subject ch ↔ ∃ w, Fires s subject meets i w := by
  unfold firedEntries
  rw [List.mem_filter, fires_iff hm]
  simp

theorem mem_firedWith {ch : Change} {meets : WatchDef → Prop} (hm : ∀ w, conditionMet w ch = true ↔ meets w) (s : State)
    (subject : WatchSubject) (action : WatchAction) (i : WatchNo) :
    i ∈ firedWith s subject ch action ↔ ∃ w, Fires s subject meets i w ∧ w.action = action := by
  unfold firedWith
  rw [List.mem_filter, mem_firedEntries hm]
  constructor
  · rintro ⟨⟨w, h⟩, ha⟩
    rw [h.1] at ha
    exact ⟨w, h, by simpa using ha⟩
  · rintro ⟨w, h, ha⟩
    refine ⟨⟨w, h⟩, ?_⟩
    rw [h.1]; simpa using ha

theorem mem_pauses {ch : Change} {meets : WatchDef → Prop} (hm : ∀ w, conditionMet w ch = true ↔ meets w) (s : State)
    (subject : WatchSubject) (r : Int) :
    r ∈ (firedWith s subject ch .pause).map (watchReference s) ↔ PausesAt s subject meets r := by
  simp only [List.mem_map, mem_firedWith hm, PausesAt]
  constructor
  · rintro ⟨i, ⟨w, h, ha⟩, hr⟩
    exact ⟨i, w, h, ha, by rw [← hr]; unfold watchReference; rw [h.1]⟩
  · rintro ⟨i, w, h, ha, hr⟩
    exact ⟨i, ⟨w, h, ha⟩, by unfold watchReference; rw [h.1]; exact hr⟩

/-! ### What the watch unit makes of a change -/

/-- The firing of a change is the outcome of R170 to R172, with the clock that its PAUSE entries leave. -/
theorem observe_outcome {ch : Change} {meets : WatchDef → Prop} (hm : ∀ w, conditionMet w ch = true ↔ meets w) (s : State)
    (subject : WatchSubject) :
    WatchOutcome s subject meets
      (pauseClock s.clock subject ch ((firedWith s subject ch .pause).map (watchReference s))) (observe s subject ch) := by
  have told (fired : List WatchNo) (hf : ∀ i ∈ fired, ∃ w, Fires s subject meets i w) (u : State)
      (hu : ∀ i : WatchNo, (u.watches.get i).definition = (s.watches.get i).definition) :
      fired.foldl sendWatch u =
        fired.foldl (fun u i => u.send (.watch i subject (((s.watches.get i).definition.map (·.action)).getD .report))) u := by
    induction fired generalizing u with
    | nil => rfl
    | cons i rest ih =>
      obtain ⟨w, h⟩ := hf i (by simp)
      have : sendWatch u i = u.send (.watch i subject w.action) := by
        unfold sendWatch; rw [hu, h.1]; simp only [h.2.2.1]
      simp only [List.foldl_cons, this, h.1, Option.map_some, Option.getD_some]
      exact ih (fun j hj => hf j (by simp [hj])) _ hu
  have marked (i : WatchNo) : ((Table.map (Watch.mark subject ch (!(firedEntries s subject ch).isEmpty)) s.watches).get i) =
      (s.watches.get i).mark subject ch (!(firedEntries s subject ch).isEmpty) := by simp
  have definitions (i : WatchNo) : ((s.watches.get i).mark subject ch (!(firedEntries s subject ch).isEmpty)).definition =
      (s.watches.get i).definition := by
    unfold Watch.mark; split
    · rfl
    · split <;> rfl
  obtain ⟨t, ht, holds⟩ := observe_cases s subject ch
  rw [told _ (fun i hi => (mem_firedEntries hm s subject i).mp hi) _
    (fun i => by simp only [State.setWatches_watches, marked, definitions])] at ht
  refine ⟨firedEntries s subject ch, Table.map (Watch.mark subject ch (!(firedEntries s subject ch).isEmpty)) s.watches,
    ?_, mem_firedEntries hm s subject, ?_, ?_, ?_⟩
  · exact List.Pairwise.filter _ (by decide)
  · intro i
    rw [marked]
    refine ⟨definitions i, ?_⟩
    rw [mem_firedEntries hm]
    unfold Watch.mark
    by_cases h : ∃ w, Fires s subject meets i w
    · have still : ¬ Stirs s subject meets i := by
        rintro ⟨w', h1, h2, _⟩
        obtain ⟨w, f1, f2, _⟩ := h
        rw [h1] at f1; cases f1; rw [h2] at f2; cases f2
      rw [if_pos ((fires_iff hm s subject i).mpr h)]
      exact ⟨by simp [h], by simp [still]⟩
    · rw [if_neg (by rw [fires_iff hm]; exact h)]
      have cond : ((!(firedEntries s subject ch).isEmpty) && (s.watches.get i).meets subject ch) = true ↔
          (Stirs s subject meets i ∧ firedEntries s subject ch ≠ []) := by
        rw [Bool.and_eq_true, meets_iff hm]
        simp only [h, false_or, Bool.not_eq_true', List.isEmpty_eq_false_iff]
        exact and_comm
      by_cases h' : Stirs s subject meets i ∧ firedEntries s subject ch ≠ []
      · rw [if_pos (cond.mpr h')]
        exact ⟨by simp [h], by simp [h']⟩
      · rw [if_neg (fun e => h' (cond.mp e))]
        exact ⟨by simp [h], by simp only [h', or_false]⟩
  · intro none
    rcases holds with ⟨_, h⟩ | ⟨i, rest, hi, _⟩
    · rw [h, ht]
    · exact absurd ((mem_firedWith hm s subject .hold i).mp (by rw [hi]; simp)) (none i)
  · intro i hi lowest
    have mem := (mem_firedWith hm s subject .hold i).mpr hi
    rcases holds with ⟨h0, _⟩ | ⟨j, rest, hj, h⟩
    · rw [h0] at mem; cases mem
    · have sorted : (firedWith s subject ch .hold).Pairwise (· < ·) :=
        List.Pairwise.filter _ (List.Pairwise.filter _ (by decide))
      have first := lowest j ((mem_firedWith hm s subject .hold j).mp (by rw [hj]; simp))
      rw [hj] at mem sorted
      have : i = j := by
        rcases List.mem_cons.mp mem with e | e
        · exact e
        · exact absurd first (not_le.mpr ((List.pairwise_cons.mp sorted).1 i e))
      subst this
      rw [h, ht]

/-- Without a PAUSE that fires, the clock stands (R171, R172). -/
theorem pauseClock_none {ch : Change} {meets : WatchDef → Prop} (hm : ∀ w, conditionMet w ch = true ↔ meets w) {s : State}
    {subject : WatchSubject} (none : ∀ r, ¬ PausesAt s subject meets r) (c : Clock) :
    pauseClock c subject ch ((firedWith s subject ch .pause).map (watchReference s)) = c := by
  have : (firedWith s subject ch .pause).map (watchReference s) = [] :=
    List.eq_nil_iff_forall_not_mem.mpr fun r hr => none r ((mem_pauses hm s subject r).mp hr)
  rw [this]; rfl

/-- A PAUSE on an axis is a stop (R13, R172). -/
theorem pauseClock_axis {a : Axis} {ch : Change} {meets : WatchDef → Prop} (hm : ∀ w, conditionMet w ch = true ↔ meets w)
    {s : State} (some : ∃ r, PausesAt s (.axis a) meets r) (c : Clock) :
    pauseClock c (.axis a) ch ((firedWith s (.axis a) ch .pause).map (watchReference s)) = c.stop := by
  obtain ⟨r, hr⟩ := some
  have mem := (mem_pauses hm s (.axis a) r).mpr hr
  cases h : (firedWith s (.axis a) ch .pause).map (watchReference s) with
  | nil => rw [h] at mem; cases mem
  | cons _ _ => rfl

theorem foldl_min_spec (r : Int) (rest : List Int) :
    (∀ y ∈ r :: rest, rest.foldl min r ≤ y) ∧ rest.foldl min r ∈ r :: rest := by
  induction rest generalizing r with
  | nil => simp
  | cons x rest ih =>
    obtain ⟨least, member⟩ := ih (min r x)
    have := least (min r x) (by simp)
    simp only [List.foldl_cons, List.mem_cons] at *
    refine ⟨?_, ?_⟩
    · rintro y (rfl | rfl | hy)
      · omega
      · omega
      · exact least y (.inr hy)
    · rcases member with h | h
      · rw [h]; rcases min_choice r x with e | e <;> rw [e] <;> simp
      · exact .inr (.inr h)

theorem foldl_max_spec (r : Int) (rest : List Int) :
    (∀ y ∈ r :: rest, y ≤ rest.foldl max r) ∧ rest.foldl max r ∈ r :: rest := by
  induction rest generalizing r with
  | nil => simp
  | cons x rest ih =>
    obtain ⟨greatest, member⟩ := ih (max r x)
    have := greatest (max r x) (by simp)
    simp only [List.foldl_cons, List.mem_cons] at *
    refine ⟨?_, ?_⟩
    · rintro y (rfl | rfl | hy)
      · omega
      · omega
      · exact greatest y (.inr hy)
    · rcases member with h | h
      · rw [h]; rcases max_choice r x with e | e <;> rw [e] <;> simp
      · exact .inr (.inr h)

/-- A PAUSE on a clock step is a pin at the reference met first in the direction of travel (R14, R171). -/
theorem pauseClock_step {x y r : Int} {meets : WatchDef → Prop} (hm : ∀ w, conditionMet w (.step x y) = true ↔ meets w)
    {s : State} (pauses : PausesAt s .skyTime meets r)
    (first : ∀ r', PausesAt s .skyTime meets r' → if x < y then r ≤ r' else r' ≤ r) (c : Clock) :
    pauseClock c .skyTime (.step x y) ((firedWith s .skyTime (.step x y) .pause).map (watchReference s)) = Clock.pin r := by
  have mem := mem_pauses hm s .skyTime
  cases h : (firedWith s .skyTime (.step x y) .pause).map (watchReference s) with
  | nil => rw [← mem, h] at pauses; cases pauses
  | cons a rest =>
    rw [h] at mem
    unfold pauseClock
    simp only
    by_cases hxy : x < y
    · rw [if_pos hxy]
      obtain ⟨least, member⟩ := foldl_min_spec a rest
      have h1 := least r ((mem r).mpr pauses)
      have h2 := first _ ((mem _).mp member)
      rw [if_pos hxy] at h2
      rw [le_antisymm h1 h2]
    · rw [if_neg hxy]
      obtain ⟨greatest, member⟩ := foldl_max_spec a rest
      have h1 := greatest r ((mem r).mpr pauses)
      have h2 := first _ ((mem _).mp member)
      rw [if_neg hxy] at h2
      rw [le_antisymm h2 h1]

end Sys2Proof.Machine
end

