-- ==== Sys2Proof/Tests/Slice0.lean ====
section
/-! SUPPORT. The tests of the model: an ill-formed command for each check of WellFormed; one step for each command with
the values of the manual's worked examples; and for each statement with hypotheses a state and operands that meet them,
at the boundaries of its clauses. -/

set_option Elab.async false

namespace Sys2Proof.Tests

open Machine Safety

/-! ### Helpers -/

/-- The state that a command leaves; the given state where it answers none. -/
def after (c : Instr) (s : State) : State :=
  match exec c s with
  | .next t => t
  | _ => s

/-- The status of the reply that stands in a link's reply slot. -/
def replyOn (l : Link) (s : State) : Option Status := (s.link l).reply.map (·.status)

/-- The data of the reply that stands in a link's reply slot. -/
def dataOn (l : Link) (s : State) : Option ReplyData := (s.link l).reply.map (·.data)

/-- The events that wait on link D. -/
def events (s : State) : List Event := (s.link .d).events

/-- The state after reset with link S holding the grant. -/
def base : State := State.reset.setGrant { holder := some .s, queue := [] }

/-- `base` with the clock at the given values. -/
def clockAt (t r rt : Int) : State := base.setClock { t := t, r := r, rt := rt }

/-- `base` with one axis channel replaced. -/
def axisIn (a : Axis) (c : AxisChannel) : State := base.setAxis a c

/-- An axis channel after reset in the given mode, REFERENCED where the mode asks for it. -/
def chan (m : Mode) : AxisChannel :=
  { AxisChannel.reset with
    mode := m
    referenced := (match m with | .track | .move _ => true | _ => false)
    driveEnabled := (match m with | .recovering _ _ | .fault _ => false | _ => true) }

/-- `base` with the store in the given state and sector 2 and 40 unprotected. -/
def storeIn (op : StoreOp) : State :=
  base.setStore { base.store with op := op, mask := (base.store.mask.set 2 false).set 40 false }

/-- `base` in HOLD, called by link D at the epoch with the clock at rest. -/
def holding : State := after (.hold .d []) base |>.setLink .d LinkState.reset

/-- A segment of track 5 over the first sky day (worked example of chapter 3). -/
def venus : Segment := ⟨5, 0, 86400, 1000000000, 40000000, -2000000, 1000000⟩

/-- A watch entry of link S on sky time at 5,376,000,000 (worked example of chapter 10). -/
def sunset : WatchDef := ⟨.s, .local_, true, .skyTime, .up, 5376000000, 1, .pause⟩

/-- `base` with watch entry 0 defined. -/
def watching (w : WatchDef) : State := base.setWatches (base.watches.set 0 { definition := some w, hit := false, met := false })

/-- No line active. -/
def quiet : Lines := ⟨false, false, false⟩

/-! ### Well-formedness: each check refuses -/

theorem test_wf_payload_fits : Instr.wf (.hold .s (List.replicate 250 0)) = true := by decide +kernel
theorem test_wf_refuses_long_payload : Instr.wf (.hold .s (List.replicate 251 0)) = false := by decide +kernel
theorem test_wf_refuses_request_kind : Instr.wf (.nonRequestKind .s 0x30 []) = false := by decide
theorem test_wf_takes_other_kind : Instr.wf (.nonRequestKind .s 0x3E []) = true := by decide
theorem test_wf_refuses_couple_off_on : Instr.wf (.coupleOff .s [1]) = false := by decide
theorem test_wf_refuses_couple_on_off : Instr.wf (.coupleOn .s [0]) = false := by decide
theorem test_wf_refuses_rotary_switch : Instr.wf (.endSwitch 0 .low) = false := by decide
theorem test_wf_takes_bounded_switch : Instr.wf (.endSwitch 16 .high) = true := by decide
theorem test_wf_refuses_reset_rotary_switch : Instr.wf (.deviceReset [] [(6, .low)]) = false := by decide
theorem test_wf_refuses_reset_double_switch : Instr.wf (.deviceReset [] [(5, .low), (5, .low)]) = false := by decide
theorem test_wf_refuses_reset_double_trip : Instr.wf (.deviceReset [6, 6] []) = false := by decide
theorem test_wf_refuses_hot_sample : Instr.wf (.thermalSample 128) = false := by decide
theorem test_wf_refuses_cold_sample : Instr.wf (.thermalSample (-129)) = false := by decide
theorem test_wf_refuses_long_arrival : Instr.wf (.frameArrival .s 0x30 (List.replicate 251 0)) = false := by decide +kernel

/-! ### Commands from words: the table gives no bits -/

theorem test_no_word_spells_a_command : decodeTableWord 8 0x30 = none := rfl
theorem test_fetch_word_changes_nothing : State.reset.withFetchWord 8 0x30 = State.reset := rfl

/-! ### CRC and records (R199, R202, R204) -/

/-- R199's check: over the digits 1 to 9 the result is 0x29B1. -/
theorem test_crc_of_digits : crcOf [0x31, 0x32, 0x33, 0x34, 0x35, 0x36, 0x37, 0x38, 0x39] = 0x29B1#16 := by decide +kernel

/-- The 26 bytes of a segment record: track, start_s in 5 bytes, span_s, c0 to c3 in 4 each (R202). -/
theorem test_segment_record_bytes : segmentBytes venus =
    [5] ++ [0, 0, 0, 0, 0] ++ [0x00, 0x01, 0x51, 0x80] ++ [0x3B, 0x9A, 0xCA, 0x00] ++ [0x02, 0x62, 0x5A, 0x00] ++
      [0xFF, 0xE1, 0x7B, 0x80] ++ [0x00, 0x0F, 0x42, 0x40] := by decide

/-- TW stands at offset 569 and the built-in 85 is 0x55 (R204). -/
theorem test_parameter_record_tw : (paramRecord ParamSet.builtIn)[569]? = some 0x55 := by decide +kernel

/-! ### The sky clock -/

/-- Chapter 1, reversing through zero, step 4. -/
theorem test_clock_step_reverses :
    (after .clockStep (clockAt 501464 232 (-1000))).clock = { t := 501440, r := -24, rt := -1000 } := by decide

/-- Chapter 1, saturation at the upper limit, step 2. -/
theorem test_clock_step_saturates :
    let t := after .clockStep (clockAt 80787451600000000 25600000000 25600000000)
    t.clock = { t := 80787456000000000, r := 0, rt := 0 } ∧ events t = [.skyLimit .high] := by decide

/-- Chapter 1: SET RATE 25,600 is answered OK; R and T are untouched. -/
theorem test_set_rate :
    let t := after (.setRate .s [0, 0, 0, 0, 0, 0, 0x64, 0]) (clockAt 0 0 0)
    t.clock = { t := 0, r := 0, rt := 25600 } ∧ replyOn .s t = some .ok := by decide

/-- R8: the most negative value is clamped with its sign kept. -/
theorem test_set_rate_clamps :
    let t := after (.setRate .s [0x80, 0, 0, 0, 0, 0, 0, 0]) (clockAt 0 0 0)
    t.clock.rt = -25600000000 ∧ replyOn .s t = some .clamped := by decide

/-- Chapter 1, whole milliseconds: SET TIME 4,540. -/
theorem test_set_time :
    (after (.setTime .s [0, 0, 0, 0, 0, 0, 0x11, 0xBC]) (clockAt 1162392 0 0)).clock.t = 1162240 := by decide

/-- Chapter 1, whole milliseconds: NUDGE -1,162,241. -/
theorem test_nudge :
    (after (.nudge .s [0xFF, 0xFF, 0xFF, 0xFF, 0xFF, 0xEE, 0x43, 0xFF]) (clockAt 1162240 0 0)).clock.t = -1 := by decide

/-! ### Star ball geometry -/

/-- Chapter 2: SET SITE (1,200,000,000, -119,304,647). -/
theorem test_set_site :
    let t := after (.setSite .s [0x47, 0x86, 0x8C, 0x00, 0xF8, 0xE3, 0x8E, 0x39]) base
    t.ball.latitude = 1073741824 ∧ t.ball.longitude = 4175662649 ∧ replyOn .s t = some .clamped := by decide

/-- Chapter 2: COUPLE OFF at t_ms 43,082,045. -/
theorem test_couple_off_freezes :
    let t := after (.coupleOff .s [0]) (clockAt (43082045 * 256) 256 256)
    t.ball.coupled = false ∧ t.ball.frozen = 1198541837 := by decide

/-- R28: an argument that is neither ON nor OFF is malformed, also where the grant is free. -/
theorem test_couple_malformed : replyOn .s (after (.coupleOff .s [2]) State.reset) = some .malformed := by decide

/-- Chapter 2: COUPLE ON leaves the frozen angle. -/
theorem test_couple_on :
    let t := after (.coupleOn .s [1]) (base.setBall { base.ball with coupled := false, frozen := 1198541837 })
    t.ball.coupled = true ∧ t.ball.frozen = 1198541837 := by decide

/-- Chapter 2: the coupled DIURNAL targets one ms before the epoch and one solar day after it. -/
theorem test_diurnal_targets :
    diurnalTarget { t := -1, r := 0, rt := 0 } base.ball = 3346025460 ∧
    diurnalTarget { t := 86400000 * 256 + 255, r := 0, rt := 0 } base.ball = 3357784717 := by decide

/-- Chapter 2: PRECESSION one Julian year after the epoch and at SKY_MIN. -/
theorem test_precession_targets :
    precessionTarget { t := 31557600000 * 256, r := 0, rt := 0 } = 166652 ∧
    precessionTarget { t := skyMin, r := 0, rt := 0 } = 2628442658 := by decide

/-! ### Ephemeris evaluation -/

/-- Chapter 3: Horner's scheme, a wrap before the epoch, and a negative latitude. -/
theorem test_segment_values :
    segmentValue venus 43200000 = 1019625000 ∧
    segmentValue ⟨1, -86400, 172800, 4200000000, 315000000, 1200000, -400000⟩ (-21600000) = 23305360 ∧
    segmentValue ⟨4, 0, 864000, 4234000000, 20000000, -3000000, 0⟩ 216000000 = -56154796 := by decide

/-- Chapter 3: a latitude track saturates. -/
theorem test_segment_saturates : segmentValue ⟨4, 0, 864000, 2147000000, 10000000, 0, 0⟩ 432000000 = 2147483647 := by
  decide

/-- Chapter 3: the statements' form of the value agrees on the example. -/
theorem test_segment_angle : segmentAngle venus 43200000 = 1019625000 := by decide

/-- READ TRACK carries the record (R51); track 13 is malformed. -/
theorem test_read_track :
    dataOn .d (after (.readTrack .d [12]) base) = some (.track 12 { last := 0, source := .uncovered }) ∧
    replyOn .d (after (.readTrack .d [13]) base) = some .malformed := by decide

/-! ### The patch table (chapter 4, refusals and the duplicate law) -/

/-- `base` with entry 0 ENABLED at slot 165 and entry 1 as given. -/
def patched (e : PatchEntry) : State := base.setPatches ((base.patches.set 0 (.enabled 165 venus)).set 1 e)

theorem test_patch_set :
    let t := after (.patchSet .s ([1, 0, 165] ++ segmentBytes venus)) (patched .unset)
    t.patches.get 1 = .disabled 165 venus ∧ replyOn .s t = some .ok := by decide

theorem test_patch_set_refused_enabled :
    replyOn .s (after (.patchSet .s ([0, 0, 200] ++ segmentBytes venus)) (patched .unset)) = some .enabled := by decide

theorem test_patch_enable_duplicate :
    replyOn .s (after (.patchEnable .s [1]) (patched (.disabled 165 venus))) = some .duplicate := by decide

theorem test_patch_enable_empty : replyOn .s (after (.patchEnable .s [1]) (patched .unset)) = some .empty := by decide

theorem test_patch_disable :
    (after (.patchDisable .s [0]) (patched .unset)).patches.get 0 = .disabled 165 venus := by decide

theorem test_patch_read :
    dataOn .d (after (.patchRead .d [0]) (patched .unset)) = some (.patch 0 (.enabled 165 venus)) := by decide

/-! ### The ephemeris store (chapter 5, an erase set aside for a write) -/

/-- 62 ms: SEGMENT WRITE (1,300) beside the suspended erase. -/
theorem test_segment_write_in_suspend :
    (after (.segmentWrite .s ([5, 20] ++ segmentBytes venus)) (storeIn (.eraseSuspended 2 90))).store.op =
      .writingInSuspend 1300 venus 2 90 := by decide

/-- 61 ms: SEGMENT WRITE (70) into the suspended sector. -/
theorem test_segment_write_into_suspended :
    replyOn .s (after (.segmentWrite .s ([0, 70] ++ segmentBytes venus)) (storeIn (.eraseSuspended 2 90))) =
      some .busy := by decide

/-- 63 ms: the write completes OK. -/
theorem test_write_completion :
    let t := after (.writeCompletion .ok) (storeIn (.writingInSuspend 1300 venus 2 90))
    t.store.op = .eraseSuspended 2 90 ∧ SlotMap.read t.store.slots 1300 = .filled venus ∧
    events t = [.storeDone (.write 1300) .ok] := by decide

/-- R69: a deferred protection is applied at the completion. -/
theorem test_write_completion_protects :
    let t := after (.writeCompletion .failed) ((storeIn (.writing 70 venus)).setStore
      { (storeIn (.writing 70 venus)).store with deferred := true })
    t.store.mask.get 2 = true ∧ t.store.deferred = false ∧ SlotMap.read t.store.slots 70 = .spoiled := by decide

/-- 0 ms: SECTOR ERASE 2. -/
theorem test_sector_erase : (after (.sectorErase .s [2]) (storeIn .idle)).store.op = .erasing 2 150 := by decide

/-- Sector 63 is always closed. -/
theorem test_sector_erase_63 : replyOn .s (after (.sectorErase .s [63]) (storeIn .idle)) = some .protected_ := by decide

/-- 60 ms: ERASE SUSPEND keeps the 90 ms left. -/
theorem test_erase_suspend : (after (.eraseSuspend .s []) (storeIn (.erasing 2 90))).store.op = .eraseSuspended 2 90 := by
  decide

/-- 62 ms: ERASE RESUME during the write is BUSY; 64 ms: it is carried out. -/
theorem test_erase_resume :
    replyOn .s (after (.eraseResume .s []) (storeIn (.writingInSuspend 1300 venus 2 90))) = some .busy ∧
    (after (.eraseResume .s []) (storeIn (.eraseSuspended 2 90))).store.op = .erasing 2 90 := by decide

/-- 154 ms: the erase completes FAILED. -/
theorem test_erase_completion :
    let t := after (.eraseCompletion .failed) (storeIn (.erasing 2 0))
    SlotMap.read t.store.slots 64 = .spoiled ∧ SlotMap.read t.store.slots 95 = .spoiled ∧
    SlotMap.read t.store.slots 96 = .empty ∧ events t = [.storeDone (.erase 2) .failed] := by decide

/-- Chapter 5, checking the top of the store: SECTOR CHECK (60, 10). -/
theorem test_sector_check :
    let t := after (.sectorCheck .d [60, 10]) (storeIn .idle)
    t.store.op = .checking 60 3 0 0xFFFF#16 ∧ replyOn .d t = some .clamped := by decide

/-- The last sector of a run ends the check. -/
theorem test_check_ends :
    (after .checkSectorCovered (storeIn (.checking 60 0 0 0xFFFF#16))).store.op = .idle := by decide +kernel

theorem test_save_parameters :
    (match (after (.saveParameters .s []) (storeIn .idle)).store.op with
      | .saving .erase copy => some (copy.tw, copy.latitude)
      | _ => none) = some (85, 0) := by decide

theorem test_save_refused_without_grant :
    replyOn .d (after (.saveParameters .d []) (storeIn (.erasing 2 3))) = some .notGranted := by decide

theorem test_save_erase_phase_fails :
    events (after (.saveErasePhaseEnd .failed) (storeIn (.saving .erase ParamSet.builtIn))) =
      [.storeDone .save .failed] := by decide

theorem test_save_write_phase_ok :
    let t := after (.saveWritePhaseEnd .ok) (storeIn (.saving .write ParamSet.builtIn))
    t.store.defaulted = false ∧ t.store.op = .idle := by decide

/-- R86: a slot of the suspended sector is BUSY, another is carried out. -/
theorem test_read_segment :
    replyOn .d (after (.readSegment .d [0, 64]) (storeIn (.eraseSuspended 2 9))) = some .busy ∧
    dataOn .d (after (.readSegment .d [0, 63]) (storeIn (.eraseSuspended 2 9))) = some (.slot 63 .empty) := by decide

/-- R69: PROTECT (on) of the sector being written is deferred. -/
theorem test_protect_deferred :
    let t := after (.protect .d [40, 1]) (storeIn (.writing 1300 venus))
    t.store.mask.get 40 = false ∧ t.store.deferred = true := by decide

theorem test_protect_off : (after (.protect .d [62, 0]) (storeIn .idle)).store.mask.get 62 = false := by decide

/-! ### Axis channels -/

/-- Chapter 6, a MOVE on a bounded axis, updates 1 and 5. -/
def moving (p v d : Int) : State :=
  axisIn 1 { chan (.move 10000000) with
    p := p, v := v, d := d, params := { AxisParams.builtIn with vmax := 3000000, amax := 1000000 } }

theorem test_update_accelerates :
    let c := (after (.profileUpdate 1) (moving 0 0 0)).axis 1
    (c.p, c.v, c.d, c.burst) = (1000000, 1000000, 11, 11) := by decide +kernel

theorem test_update_arrives :
    let c := (after (.profileUpdate 1) (moving 8828427 2828427 105)).axis 1
    (c.p, c.v, c.d, c.burst) = (10000000, 1171573, 119, 14) := by decide +kernel

/-- Chapter 6, the short way, the half turn and the long way. -/
theorem test_track_errors :
    let c (p : Int) : AxisChannel := { chan .track with p := p, params := { AxisParams.builtIn with wrapLimit := 1 } }
    trackError 0 (c 1000000000) 1500000000 = 500000000 ∧
    trackError 0 (c 4294967296) 2147483648 = -2147483648 ∧
    trackError 0 (c 4000000000) 500000000 = -3500000000 := by decide

/-- Chapter 6, MOVE destinations on a rotary axis: the fourth and the first. -/
def parked9 : State :=
  axisIn 9 { chan .parked with
    p := -300000000, referenced := true, params := { AxisParams.builtIn with wrapLimit := 1 } }

theorem test_move_clamped :
    let t := after (.move .s [9, 0xEE, 0x6B, 0x28, 0x00, 2]) parked9
    (t.axis 9).mode = .move (-4294967296) ∧ replyOn .s t = some .clamped := by decide

theorem test_move_positive :
    (after (.move .s [9, 0x05, 0xF5, 0xE1, 0x00, 1]) parked9).axis 9 =
      { parked9.axis 9 with mode := .move 100000000 } := by decide

/-- R109: the first axis that fails is named. -/
theorem test_track_unreferenced :
    let t := after (.track .s [0x00, 0x02, 0x01]) (axisIn 0 { chan .parked with referenced := true })
    replyOn .s t = some .unreferenced ∧ dataOn .s t = some (.axisNumber 9) ∧ (t.axis 0).mode = .parked := by decide

theorem test_track :
    ((after (.track .s [0x01, 0x00, 0x00]) (axisIn 16 { chan .parked with referenced := true })).axis 16).mode =
      .track := by decide

theorem test_park :
    ((after (.park .s [0, 0, 2]) (axisIn 1 (chan (.move 5)))).axis 1).mode = .stopping .parked := by decide

/-- R115: a change of gear clears REFERENCED and recomputes D. -/
theorem test_set_axis_param_gear :
    let c := (after (.setAxisParam .s [1, 0, 0, 1, 0, 0])
      (axisIn 1 { chan .parked with p := 131072, referenced := true })).axis 1
    (c.params.gear, c.referenced, c.d) = (65536, false, 2) := by decide

/-- R113: a bounded axis has no wrap limit. -/
theorem test_set_axis_param_wrap : replyOn .s (after (.setAxisParam .s [1, 8, 0, 0, 0, 1]) base) = some .malformed := by
  decide

/-- R116: READ AXIS gives the effective vmax under the warning. -/
theorem test_read_axis :
    (match dataOn .d (after (.readAxis .d [13]) (base.setThermal { base.thermal with warning := true })) with
      | some (.axis a r) => some (a, r.effectiveVmax, r.mode)
      | _ => none) = some (13, 2147483, .parked) := by decide

/-! ### Homing (chapter 7) -/

/-- Axis 4 of the worked example in a phase. -/
def homing4 (h : HomingRecord) (p v : Int) : State :=
  axisIn 4 { chan (.homing h) with
    p := p, v := v, d := p * 51200 / 4294967296
    params := { AxisParams.builtIn with
      vmax := 16000000, amax := 1000000, homeSpeed := 8000000, indexOffset := 200000000, wrapLimit := 1 } }

/-- Update 2, in SEEK. -/
theorem test_update_seek :
    let c := (after (.profileUpdate 4) (homing4 ⟨.seek, 1000000, 0⟩ 201000000 1000000)).axis 4
    (c.p, c.v, c.mode) = (203000000, 2000000, .homing ⟨.seek, 3000000, 0⟩) := by decide

/-- Update 52, the end of SETTLE. -/
theorem test_update_settle :
    let t := after (.profileUpdate 4) (homing4 ⟨.settle, 68000000, 31000000⟩ 200000000 (-1000000))
    (t.axis 4).mode = .parked ∧ (t.axis 4).referenced = true ∧ (t.axis 4).p = 200000000 ∧
    events t = [.referenced 4] := by decide

/-- `homing4` with vmax 1 and the warning ON: an effective vmax of 0. -/
def crawling (h : HomingRecord) : State :=
  ((homing4 h 0 0).setAxis 4 { (homing4 h 0 0).axis 4 with
    params := { AxisParams.builtIn with vmax := 1, homeSpeed := 1 } }).setThermal { base.thermal with warning := true }

/-- R120: with an effective vmax of 0 an axis at rest stays in BACKOFF and in SETTLE, also outside the wrap window. -/
theorem test_update_stays_in_phase :
    ((after (.profileUpdate 4) (crawling ⟨.backoff, 5, 0⟩)).axis 4).mode = .homing ⟨.backoff, 5, 0⟩ ∧
    ((after (.profileUpdate 4) (crawling ⟨.settle, 5, 9⟩)).axis 4).mode = .homing ⟨.settle, 5, 9⟩ ∧
    ((after (.profileUpdate 4) (crawling ⟨.seek, 5368709121, 0⟩)).axis 4).mode = .homing ⟨.seek, 5368709121, 0⟩ := by
  decide

/-- The edge in SEEK, and the reference edge in CREEP. -/
theorem test_index_edge_in_seek :
    ((after (.indexEdge 4) (homing4 ⟨.seek, 68000000, 0⟩ 268000000 8000000)).axis 4).mode =
      .homing ⟨.backoff, 68000000, 0⟩ := by decide

theorem test_index_edge_in_creep :
    let c := (after (.indexEdge 4) (homing4 ⟨.creep, 68000000, 31000000⟩ 265000000 (-1000000))).axis 4
    (c.p, c.v, c.d, c.mode) = (200000000, -1000000, 2384, .homing ⟨.settle, 68000000, 31000000⟩) := by decide

/-- Chapter 7, refusals: HOME (8, 10, 12) names axis 10. -/
theorem test_home_names_axis :
    let t := after (.home .s [0x00, 0x15, 0x00]) (axisIn 10 (chan .track))
    replyOn .s t = some .notParked ∧ dataOn .s t = some (.axisNumber 10) ∧ (t.axis 8).mode = .parked := by decide

theorem test_home :
    ((after (.home .s [0x00, 0x11, 0x00]) base).axis 12).mode = .homing ⟨.seek, 0, 0⟩ := by decide

/-! ### Drive protection (chapter 8) -/

/-- Axis 11 of the worked example. -/
def mars (m : Mode) (count : Nat) (window : Option Nat) : State :=
  axisIn 11 { chan m with
    referenced := true, tripCount := count, tripWindow := window, params := { AxisParams.builtIn with recovery := .retry } }

/-- Time 0: the first trip of a count. -/
theorem test_trip_retried :
    let c := (after (.qualifiedTrip ⟨11, true, 20⟩) (mars .track 0 none)).axis 11
    (c.mode, c.tripCount, c.tripWindow, c.referenced) = (.recovering .track 10, 1, some 1000, true) := by decide

/-- R132: short of the built-in 20 µs nothing but the width is kept, and that width holds for the activation. -/
theorem test_trip_filtered :
    let t := after (.qualifiedTrip ⟨11, true, 19⟩) (mars .track 0 none)
    let wider := t.setAxis 11 { t.axis 11 with params := { (t.axis 11).params with tripFilter := .us80 } }
    (t.axis 11).mode = .track ∧ (t.axis 11).tripLine = .filtering .us20 ∧
    ((after (.qualifiedTrip ⟨11, false, 20⟩) wider).axis 11).mode = .recovering .track 10 := by decide

/-- R132: a line that stays active qualifies once, and again after it has become active anew. -/
theorem test_trip_qualifies_once :
    let t := after (.qualifiedTrip ⟨11, true, 20⟩) (mars .track 0 none)
    ((after (.qualifiedTrip ⟨11, false, 90⟩) t).axis 11).tripCount = 1 ∧
    ((after (.qualifiedTrip ⟨11, true, 20⟩) t).axis 11).tripCount = 2 := by decide

/-- Time 900: the third trip. -/
theorem test_third_trip_faults :
    let t := after (.qualifiedTrip ⟨11, true, 20⟩) (mars .track 2 (some 100))
    (t.axis 11).mode = .fault .trip ∧ (t.axis 11).referenced = false ∧ t.inHold = true ∧
    events t = [.axisFault 11 .trip, .holdEntered (.axisFault 11 .trip) 0] := by decide

/-- Time 10: retry expiry with the line inactive. -/
theorem test_retry_expiry :
    let c := (after (.retryExpiry 11 false) (mars (.recovering .track 0) 1 (some 990))).axis 11
    (c.mode, c.driveEnabled, c.tripCount) = (.track, true, 1) := by decide

/-- R140, Trip first: the trip restarts the retry timer, so that its expiry does not occur. -/
theorem test_retry_expiry_after_trip :
    let t := after (.qualifiedTrip ⟨11, true, 20⟩) (mars (.recovering .track 0) 1 (some 990))
    (t.axis 11).mode = .recovering .track 10 ∧ exec (.retryExpiry 11 false) t = .next t := by
  exact ⟨by decide, rfl⟩

/-- The line held active through the retry expiry at 410 counts as the third trip. -/
theorem test_retry_expiry_active :
    ((after (.retryExpiry 11 true) (mars (.recovering .track 0) 2 (some 590))).axis 11).mode = .fault .trip := by decide

/-- Time 1,000. -/
theorem test_trip_window_expiry :
    let c := (after (.tripWindowExpiry 11) (mars (.fault .trip) 3 (some 0))).axis 11
    (c.tripCount, c.tripWindow, c.mode) = (0, none, .fault .trip) := by decide

/-- A fault arriving while a fault holds: the HIGH end switch of axis 14 in HOLD. -/
theorem test_end_switch_in_hold :
    let t := after (.endSwitch 14 .high) holding
    (t.axis 14).mode = .fault .endSwitch ∧
    (match t.holdCtl with | .hold _ p => p | _ => none) = some (.axisFault 14 .endSwitch) := by decide

/-- Its CLEAR FAULT with the switch still active, and without. -/
theorem test_clear_fault :
    replyOn .s (after (.clearFault .s [14] ⟨false, false, true⟩) (axisIn 14 (chan (.fault .endSwitch)))) = some .active ∧
    ((after (.clearFault .s [14] quiet) (axisIn 14 (chan (.fault .endSwitch)))).axis 14).mode = .parked := by decide

/-- The lamp house, sample 5 from sample 4. -/
theorem test_thermal_sample_over :
    let t := after (.thermalSample 101) (base.setThermal { warning := true, latest := some 91, overMark := false, tw := 85 })
    t.thermal.overMark = true ∧ events t = [.thermal .over 101, .holdEntered .thermal 0] := by decide

/-- The lamp house, sample 10 from sample 9. -/
theorem test_thermal_sample_off :
    let t := after (.thermalSample 80) (base.setThermal { warning := true, latest := some 86, overMark := false, tw := 85 })
    t.thermal.warning = false ∧ events t = [.thermal .warningOff 80] := by decide

/-- SET THERMAL LIMIT 93 is taken as 90. -/
theorem test_set_thermal_limit :
    let t := after (.setThermalLimit .s [93]) base
    t.thermal.tw = 90 ∧ replyOn .s t = some .clamped := by decide

/-! ### Hold and resume (chapter 9) -/

/-- Step 1: HOLD from D. -/
theorem test_hold :
    let t := after (.hold .d []) (clockAt 1136792 25600 25600)
    t.clock = { t := 1136792, r := 0, rt := 0 } ∧ (t.axis 9).mode = .held ∧
    events t = [.holdEntered (.request .d) 1136792] := by decide

/-- Step 10: RESUME from C at the edited resume time. -/
theorem test_resume :
    let t := after (.resume .c []) (holding.setHold (match holding.holdCtl with
      | .hold snap _ => .hold { snap with resumeTime := 1162240, restoreRate := false, entryRt := 25600 } none
      | x => x))
    t.clock = { t := 1162240, r := 0, rt := 0 } ∧ t.inHold = false ∧ (t.axis 9).mode = .parked := by decide

/-- Step 6: RESUME from D. -/
theorem test_resume_not_granted : replyOn .d (after (.resume .d []) holding) = some .notGranted := by decide

theorem test_snapshot_read : dataOn .d (after (.snapshotRead .d []) base) = some (.snapshot (.normal none)) := by decide

/-- Step 9: SNAPSHOT EDIT (0, 1,162,240) from C. -/
theorem test_snapshot_edit :
    (match (after (.snapshotEdit .c [0, 0, 0, 0, 0, 0, 0x11, 0xBC, 0]) holding).holdCtl with
      | .hold snap _ => some (snap.restoreRate, snap.resumeTime)
      | _ => none) = some (false, 1162240) := by decide

/-! ### Watches (chapter 10) -/

/-- WATCH SET (0, LOCAL, SKY TIME, UP, 5,376,000,000, 1, PAUSE) from S. -/
theorem test_watch_set :
    let t := after (.watchSet .s [0, 0, 255, 0, 0, 0, 0, 1, 0x40, 0x6F, 0x40, 0, 0, 0, 0, 1, 1]) base
    (t.watches.get 0).definition = some { sunset with enabled := false } ∧ replyOn .s t = some .ok := by decide

/-- SKY TIME, INSIDE and PAUSE together are malformed (R173). -/
theorem test_watch_set_malformed :
    replyOn .s (after (.watchSet .s [0, 1, 255, 3, 0, 0, 0, 0, 0, 0, 0, 0, 0, 0, 0, 1, 1]) base) = some .malformed := by
  decide

/-- Moment 2: the pause pins the clock at sunset. -/
theorem test_clock_step_pins :
    let t := after .clockStep ((watching sunset).setClock { t := 5375800000, r := 256000, rt := 256000 })
    t.clock = { t := 5376000000, r := 0, rt := 0 } ∧ (t.watches.get 0).hit = true ∧
    events t = [.watch 0 .skyTime .pause] := by decide

/-- Moment 6: a reference stood upon is not met again. -/
theorem test_clock_step_leaves_reference :
    events (after .clockStep ((watching sunset).setClock { t := 5376000000, r := 0, rt := 256 })) = [] := by decide

theorem test_watch_enable :
    ((after (.watchEnable .s [0]) (watching { sunset with enabled := false })).watches.get 0).definition = some sunset := by
  decide

theorem test_watch_enable_owned : replyOn .d (after (.watchEnable .d [0]) (watching sunset)) = some .owned := by decide

theorem test_watch_disable :
    ((after (.watchDisable .c [0]) (watching sunset)).watches.get 0).definition = some { sunset with enabled := false } := by
  decide

theorem test_watch_clear :
    (after (.watchClear .s [0]) (watching sunset)).watches.get 0 = { definition := none, hit := false, met := false } := by
  decide

theorem test_watch_status : dataOn .d (after (.watchStatus .d []) base) = some (.watches base.watches) := by decide

/-- Moment 4: WATCH ACKNOWLEDGE (HIT 1) from D. -/
theorem test_watch_acknowledge :
    let t := after (.watchAcknowledge .d [2])
      (base.setWatches ((base.watches.set 1 { definition := none, hit := true, met := true }).set 0
        { definition := none, hit := true, met := false }))
    t.watches.get 1 = { definition := none, hit := false, met := true } ∧ (t.watches.get 0).hit = true := by decide

/-! ### Links and grant (chapter 11) -/

/-- `base` with links waiting for the grant. -/
def waiting (holder : Option Link) (queue : List Link) : State := base.setGrant { holder := holder, queue := queue }

/-- Step 2: GRANT REQUEST from C. -/
theorem test_grant_request :
    let t := after (.grantRequest .c []) (waiting (some .s) [.d])
    t.grant = { holder := some .s, queue := [.d, .c] } ∧ replyOn .c t = some .queued := by decide

/-- A free grant is taken at once. -/
theorem test_grant_request_free :
    (after (.grantRequest .d []) State.reset).grant = { holder := some .d, queue := [] } := by decide

/-- Step 8: GRANT RELEASE from C. -/
theorem test_grant_release :
    let t := after (.grantRelease .c []) (waiting (some .c) [.d, .s])
    t.grant = { holder := some .d, queue := [.s] } ∧ events t = [.grant (some .d) (some .c) .release false] := by decide

/-- Step 6: GRANT SEIZE from C. -/
theorem test_grant_seize :
    let t := after (.grantSeize .c []) (waiting (some .s) [.d, .c])
    t.grant = { holder := some .c, queue := [.d] } ∧ events t = [.grant (some .c) (some .s) .seize true] := by decide

/-- Step 5: GRANT SEIZE from D. -/
theorem test_grant_seize_not_console :
    replyOn .d (after (.grantSeize .d []) (waiting (some .s) [])) = some .notConsole := by decide

/-- `waiting` with a guard on link D. -/
def guarded (g : Guard) : State := (waiting (some .d) [.s]).setLink .d { LinkState.reset with guard := g }

/-- Step 10: guard expiry with the action RELEASE. -/
theorem test_guard_expiry :
    let t := after (.guardExpiry .d) ((guarded (.running .ms500 .release 0)).setClock { t := 0, r := 25600, rt := 25600 })
    t.grant = { holder := some .s, queue := [] } ∧ t.clock.rt = 0 ∧ t.clock.r = 25600 ∧
    events t = [.guardExpired .d .release, .grant (some .s) (some .d) .guard false] := by decide

/-- Step 10 with the action HOLD. -/
theorem test_guard_expiry_hold :
    events (after (.guardExpiry .d) (guarded (.running .ms500 .hold 0))) =
      [.guardExpired .d .hold, .grant (some .s) (some .d) .guard false, .holdEntered (.guard .d) 0] := by decide

theorem test_guard_arm :
    ((after (.guardArm .d [0x01, 0xF4, 0]) base).link .d).guard = .running .ms500 .release 500 := by decide

theorem test_guard_arm_locked :
    replyOn .d (after (.guardArm .d [0x01, 0xF4, 0]) (guarded (.expired .ms50 .hold))) = some .locked := by decide

theorem test_report_interval :
    ((after (.reportInterval .d [50]) base).link .d).reporting = .every .ms50 50 := by decide

theorem test_report_interval_malformed : replyOn .d (after (.reportInterval .d [51]) base) = some .malformed := by decide

theorem test_report_event :
    ((after (.reportEvent .d) ((clockAt 7 8 9).setLink .d
      { LinkState.reset with reporting := .every .ms10 0 })).link .d).report.map (fun r => (r.t, r.r, r.rt)) =
      some (7, 8, 9) := by decide

/-- A link with both flags set. -/
def flagged : State := base.setLink .d { LinkState.reset with overrun := true, lineError := true }

theorem test_read_status :
    let t := after (.readStatus .d []) flagged
    (t.link .d).overrun = false ∧
    (match dataOn .d t with | some (.status r) => some (r.overrun, r.defaulted) | _ => none) = some (true, true) := by
  decide

theorem test_link_reset :
    let t := after (.linkReset .s []) (base.send (.lagging 3))
    (t.link .s).events = [.grant none (some .s) .linkReset false] ∧ t.grant.holder = none ∧
    events t = [.lagging 3, .grant none (some .s) .linkReset false] := by decide

/-- R180: a frame of kind 0x3E is answered MALFORMED with the kind received. -/
theorem test_non_request_kind :
    let t := after (.nonRequestKind .d 0x3E [1, 2]) base
    replyOn .d t = some .malformed ∧ dataOn .d t = some (.kindReceived 0x3E) := by decide

/-- R193: the ninth event is lost with OVERRUN. -/
theorem test_event_queue_overruns :
    let full := base.setLink .d { LinkState.reset with events := List.replicate 8 (.lagging 0) }
    ((full.send (.lagging 1)).link .d).events = List.replicate 8 (.lagging 0) ∧
    ((full.send (.lagging 1)).link .d).overrun = true := by decide

theorem test_frame_arrival :
    let t := after (.frameArrival .d 0x4A []) (guarded (.expired .ms50 .hold))
    (t.link .d).buffer = [⟨0x4A, []⟩] ∧ (t.link .d).guard = .running .ms50 .hold 50 := by decide

theorem test_frame_arrival_overrun :
    let t := after (.frameArrival .d 0x4A []) (base.setLink .d
      { LinkState.reset with buffer := List.replicate 4 ⟨0x30, []⟩ })
    (t.link .d).buffer.length = 4 ∧ (t.link .d).overrun = true := by decide

/-- R178: 0xA5 begins a frame; another character does not. -/
theorem test_character_starts :
    ((after (.characterReceived .d 0xA5 false) base).link .d).receiver = .collecting [] ∧
    ((after (.characterReceived .d 0x5A false) base).link .d).lineError = true := by decide

/-- The last check byte of an empty frame of kind 0x4A: the CRC of 00 4A is 0xF481. -/
theorem test_character_completes :
    let x := (after (.characterReceived .d 0x81 false)
      (base.setLink .d { LinkState.reset with receiver := .collecting [0x00, 0x4A, 0xF4] })).link .d
    x.buffer = [⟨0x4A, []⟩] ∧ x.receiver = .hunting ∧ x.lineError = false := by decide +kernel

/-- R181: the reply goes before the report and the event. -/
theorem test_transmit_start :
    let t := after (.transmitStart .d) ((base.send (.lagging 3)).putReply .d ⟨0x30, .ok, .none⟩)
    (t.link .d).reply = none ∧ events t = [.lagging 3] ∧
    (t.link .d).sending = some ⟨0xB0, [0x00]⟩ := by decide

/-- R195: the report shows OVERRUN and LINE ERROR, and they are cleared. -/
theorem test_transmit_report_clears_flags :
    let t := after (.transmitStart .d) (flagged.setLink .d { flagged.link .d with report := some (collectReport base) })
    (t.link .d).overrun = false ∧ (t.link .d).lineError = false ∧ (t.link .d).sending.isSome = true := by decide

/-! ### Device reset -/

/-- R87: a reset during a write in suspension spoils the slot and the sector. -/
theorem test_device_reset_spoils :
    let t := after (.deviceReset [] []) (storeIn (.writingInSuspend 1300 venus 2 90))
    SlotMap.read t.store.slots 1300 = .spoiled ∧ SlotMap.read t.store.slots 64 = .spoiled ∧
    SlotMap.read t.store.slots 96 = .empty ∧ t.store.mask.get 2 = true := by decide +kernel

/-- R139: an end switch active at the end of the reset is taken then. -/
theorem test_device_reset_end_switch :
    let t := after (.deviceReset [] [(1, .low)]) base
    (t.axis 1).mode = .fault .endSwitch ∧ t.inHold = true := by decide +kernel

/-- R132: a line active at the end of the reset starts the built-in filter of 20 µs then; of width 0 it would trip. -/
theorem test_device_reset_trip_line :
    ((takeTripLines [6] base).axis 6).tripLine = .filtering .us20 ∧
    ((takeTripLines [6] (axisIn 6 { chan .parked with params := { AxisParams.builtIn with tripFilter := .us0 } })).axis
      6).mode = .fault .trip := by decide

/-! ### Witnesses: what the statements' hypotheses ask, met by concrete states and operands -/

/-- A link with an empty buffer and an empty reply slot can take any frame. -/
theorem ready_open {s : State} {l : Link} (reply : (s.link l).reply = none) (buffer : (s.link l).buffer = [])
    (k : Byte) (p : List Byte) : Ready s l k p := by
  simp [Ready, State.canTake, reply, buffer]

/-- A link whose oldest frame is the one to be taken can take it. -/
theorem ready_front {s : State} {l : Link} {k : Byte} {p : List Byte} {rest : List Frame}
    (reply : (s.link l).reply = none) (buffer : (s.link l).buffer = ⟨k, p⟩ :: rest) : Ready s l k p := by
  simp [Ready, State.canTake, reply, buffer]

/-- With every entry FREE no subject is watched. -/
theorem unwatched_of_free {s : State} (free : ∀ i, (s.watches.get i).definition = none) (x : WatchSubject) :
    Unwatched s x := by
  intro i w h
  simp [free i] at h

/-- With every entry FREE no entry on sky time waits for a jump. -/
theorem no_inside_of_free {s : State} (free : ∀ i, (s.watches.get i).definition = none) : NoInsideOnSky s := by
  intro i w h
  simp [free i] at h

/-- `base` with two frames waiting on link D. -/
def queued : State := base.setLink .d { LinkState.reset with buffer := [⟨0x40, []⟩, ⟨0x41, []⟩] }

/-- `base` with a reply that still waits on link D. -/
def replying : State := base.putReply .d ⟨0x30, .ok, .none⟩

/-- Running remaining times of every kind. -/
def timers : State :=
  ((storeIn (.erasing 2 90)).setAxis 11 { chan (.recovering .track 10) with tripCount := 1, tripWindow := some 1000 }).setLink
    .d { LinkState.reset with guard := .running .ms500 .hold 500, reporting := .every .ms10 1 }

theorem witness_EmptyQueueLetsTimersFall_running :
    timers.pending = [] ∧ timers.store.op = .erasing 2 90 ∧ (timers.axis 11).mode = .recovering .track 10 ∧
    (timers.link .d).guard = .running .ms500 .hold 500 ∧ (timers.link .d).reporting = .every .ms10 1 := by decide

theorem witness_EmptyQueueLetsTimersFall_standing :
    let s := storeIn (.writingInSuspend 1300 venus 2 90)
    s.pending = [] ∧ (∀ sec left, s.store.op ≠ .erasing sec left) ∧
    (∀ prior left, (s.axis 0).mode ≠ .recovering prior left) ∧ (s.axis 0).tripWindow = none ∧
    (∀ i act left, (s.link .d).guard ≠ .running i act left) ∧ (s.link .d).reporting = .off := by
  refine ⟨rfl, nofun, fun _ _ => ?_, by decide, fun _ _ _ => ?_, rfl⟩
  · rw [show ((storeIn (.writingInSuspend 1300 venus 2 90)).axis 0).mode = .parked from rfl]
    nofun
  · rw [show ((storeIn (.writingInSuspend 1300 venus 2 90)).link .d).guard = .disarmed from rfl]
    nofun

theorem witness_EveryTakingGivesOneReply_taken :
    Instr.wf (.grantRequest .d []) = true ∧ (Instr.grantRequest .d []).frame? = some (.d, 0x40, []) ∧
    Ready queued .d 0x40 [] ∧ Instr.wf (.linkReset .d []) = true ∧ Ready base .d 0x4B [] :=
  ⟨rfl, rfl, ready_front rfl rfl, rfl, ready_open rfl rfl _ _⟩

theorem witness_EveryTakingGivesOneReply_waiting :
    Instr.wf (.grantRelease .d []) = true ∧ (Instr.grantRelease .d []).frame? = some (.d, 0x41, []) ∧
    ¬ Ready queued .d 0x41 [] ∧ ¬ Ready replying .d 0x41 [] := by
  unfold Ready
  decide

theorem witness_MalformedFramesChangeNothing_length :
    ((0x30, 0) : Byte × Nat) ∈ lengthTable ∧ ([0] : List Byte).length ≠ 0 ∧ Ready base .d 0x30 [0] :=
  ⟨by decide, by decide, ready_open rfl rfl _ _⟩

theorem witness_MalformedFramesChangeNothing_kind : (∀ x ∈ lengthTable, (0x3E : Byte) ≠ x.1) ∧ Ready base .d 0x3E [] :=
  ⟨by decide, ready_open rfl rfl _ _⟩

/-- The first value past each range: each is answered MALFORMED from a link without the grant. -/
theorem witness_MalformedFieldsChangeNothing_numbers :
    (∀ k p, Ready base .d k p) ∧ replyOn .d (after (.readTrack .d [13]) base) = some .malformed ∧
    replyOn .d (after (.patchEnable .d [8]) base) = some .malformed ∧
    replyOn .d (after (.readSegment .d (beBytes 2 2016)) base) = some .malformed ∧
    replyOn .d (after (.sectorErase .d [64]) base) = some .malformed ∧
    replyOn .d (after (.readAxis .d [17]) base) = some .malformed ∧
    replyOn .d (after (.watchEnable .d [4]) base) = some .malformed ∧
    replyOn .d (after (.park .d (beBytes 3 0)) base) = some .malformed ∧
    replyOn .d (after (.park .d (beBytes 3 (2 ^ 17))) base) = some .malformed :=
  ⟨fun _ _ => ready_open rfl rfl _ _, by decide, by decide, by decide, by decide, by decide, by decide, by decide, by decide⟩

/-- The first code past each list, and the bounds of a segment passed by one. -/
theorem witness_MalformedFieldsChangeNothing_codes :
    replyOn .d (after (.protect .d [63, 2]) base) = some .malformed ∧
    replyOn .d (after (.move .d [1, 0, 0, 0, 0, 3]) base) = some .malformed ∧
    replyOn .d (after (.guardArm .d (beBytes 2 51 ++ [0])) base) = some .malformed ∧
    replyOn .d (after (.guardArm .d (beBytes 2 50 ++ [2])) base) = some .malformed ∧
    replyOn .d (after (.segmentWrite .d (beBytes 2 0 ++ segmentBytes { venus with spanS := 0 })) base) = some .malformed ∧
    replyOn .d (after (.segmentWrite .d (beBytes 2 0 ++ segmentBytes { venus with startS := -315576000001 })) base) =
      some .malformed ∧
    replyOn .d (after (.segmentWrite .d (beBytes 2 0 ++ segmentBytes { venus with startS := 315576000000 - 86399 })) base) =
      some .malformed ∧
    replyOn .d (after (.segmentWrite .d (beBytes 2 0 ++ segmentBytes { venus with startS := 315576000000 - 86400 })) base) =
      some .protected_ := by decide

theorem witness_RefusalsChangeNothing_malformed :
    (∀ k p, Ready holding .d k p) ∧ ¬ FormPasses 0x09 [8] ∧ ¬ FormPasses 0x02 [0] ∧ ¬ FormPasses 0x05 [2] ∧
    ¬ FormPasses 0x26 [17] := by
  refine ⟨fun _ _ => ready_open rfl rfl _ _, ?_⟩
  simp [FormPasses]

/-- A payload of the right form for each grant-bound kind, the last numbers and the last axis set among them. -/
theorem witness_RefusalsChangeNothing_form :
    (FormPasses 0x01 (beBytes 8 0) ∧ FormPasses 0x02 (beBytes 8 0) ∧ FormPasses 0x03 (beBytes 8 0) ∧
      FormPasses 0x04 (beBytes 8 0) ∧ FormPasses 0x05 [1] ∧ FormPasses 0x15 [] ∧ FormPasses 0x27 [0xFF] ∧
      FormPasses 0x26 [16] ∧ FormPasses 0x08 [7] ∧ FormPasses 0x09 [7]) ∧
    (FormPasses 0x20 (beBytes 3 1) ∧ FormPasses 0x22 (beBytes 3 (2 ^ 17 - 1)) ∧ FormPasses 0x25 (beBytes 3 1)) ∧
    FormPasses 0x21 [16, 0, 0, 0, 0, 2] ∧ FormPasses 0x23 [0, 8, 0, 0, 0, 1] ∧
    FormPasses 0x07 (beBytes 1 7 ++ beBytes 2 2015 ++ segmentBytes venus) := by
  refine ⟨by simp [FormPasses], ⟨?_, ?_, ?_⟩, ?_, ?_, ?_⟩ <;> simp only [FormPasses]
  · exact ⟨nofun, nofun, by decide, nofun, fun _ => ⟨1, by decide⟩, nofun, nofun, nofun, by decide, nofun⟩
  · exact ⟨nofun, nofun, by decide, nofun, fun _ => ⟨2 ^ 17 - 1, by decide⟩, nofun, nofun, nofun, by decide, nofun⟩
  · exact ⟨nofun, nofun, by decide, nofun, fun _ => ⟨1, by decide⟩, nofun, nofun, nofun, by decide, nofun⟩
  · exact ⟨nofun, nofun, by decide, nofun, fun h => absurd h (by decide), fun _ => ⟨16, 2, [0, 0, 0, 0], by decide⟩, nofun,
      nofun, by decide, nofun⟩
  · refine ⟨nofun, nofun, by decide, nofun, fun h => absurd h (by decide), nofun, fun _ => ⟨0, 8, 1, ?_⟩, nofun, by decide,
      nofun⟩
    unfold ParamCarried ParamExists
    decide
  · refine ⟨nofun, nofun, by decide, nofun, fun h => absurd h (by decide), nofun, nofun, nofun, by decide,
      fun _ => ⟨7, 2015, venus, ?_, rfl⟩⟩
    unfold SegmentFits
    decide

theorem witness_RefusalsChangeNothing_refused :
    (0x09 : Byte) ∈ grantBoundKinds ∧ base.grant.holder ≠ some .d ∧ Ready base .d 0x09 [7] ∧
    (0x25 : Byte) ∈ heldKinds ∧ holding.inHold = true ∧ holding.grant.holder = some .s ∧
    Ready holding .s 0x25 (beBytes 3 1) :=
  ⟨by decide, by decide, ready_open rfl rfl _ _, by decide, by decide, by decide, ready_open rfl rfl _ _⟩

/-- The advance lands exactly on a limit. -/
theorem witness_ClockStepRampsAndAdvances_within :
    Unwatched (clockAt (skyMax - 256) 0 256) .skyTime ∧ Unwatched (clockAt (skyMin + 256) 0 (-300)) .skyTime ∧
    skyMax - 256 + 256 ≤ skyMax ∧ skyMin ≤ skyMin + 256 - 256 :=
  ⟨unwatched_of_free (by decide) _, unwatched_of_free (by decide) _, by decide, by decide⟩

/-- The advance passes a limit by one sky unit. -/
theorem witness_ClockStepRampsAndAdvances_beyond :
    Unwatched (clockAt (skyMax - 255) 0 256) .skyTime ∧ Unwatched (clockAt (skyMin + 255) 0 (-256)) .skyTime ∧
    skyMax < skyMax - 255 + 256 ∧ skyMin + 255 - 256 < skyMin :=
  ⟨unwatched_of_free (by decide) _, unwatched_of_free (by decide) _, by decide, by decide⟩

theorem witness_RampLandsOnTarget :
    |(25600 : Int) - 0| ≤ 256 * (100 : Nat) ∧ (0 : Int) ≤ 25600 ∧ (-1000 : Int) ≤ 232 := by decide

/-- RATE_MAX and one past it, and the ends of the eight bytes. -/
theorem witness_ClockRequestsSetRateAndTime_rate :
    Ready base .s 0x01 (beBytes 8 rateMax) ∧ Ready base .s 0x01 (beBytes 8 (rateMax + 1)) ∧
    Ready base .s 0x01 (beBytes 8 (-2 ^ 63)) ∧ -2 ^ 63 ≤ rateMax ∧ rateMax + 1 < (2 : Int) ^ 63 :=
  ⟨ready_open rfl rfl _ _, ready_open rfl rfl _ _, ready_open rfl rfl _ _, by decide, by decide⟩

theorem witness_ClockRequestsSetRateAndTime_jump :
    base.grant.holder = some .s ∧ base.inHold = false ∧ NoInsideOnSky base ∧ Ready base .s 0x02 (beBytes 8 315576000000000) ∧
    256 * 315576000000000 = skyMax ∧ Ready base .s 0x03 (beBytes 8 (-skyMax - 1)) :=
  ⟨by decide, by decide, no_inside_of_free (by decide), ready_open rfl rfl _ _, by decide, ready_open rfl rfl _ _⟩

/-- A quarter turn and one past it. -/
theorem witness_SiteAndCouplingRequests_site :
    Ready base .s 0x04 (beBytes 4 (2 ^ 30) ++ beBytes 4 (-1)) ∧ Ready base .s 0x04 (beBytes 4 (2 ^ 30 + 1) ++ beBytes 4 0) ∧
    Ready base .s 0x04 (beBytes 4 (-2 ^ 31) ++ beBytes 4 (2 ^ 31 - 1)) :=
  ⟨ready_open rfl rfl _ _, ready_open rfl rfl _ _, ready_open rfl rfl _ _⟩

theorem witness_SiteAndCouplingRequests_couple :
    base.grant.holder = some .s ∧ Ready base .s 0x05 [0] ∧ Ready base .s 0x05 [1] ∧ Ready base .s 0x05 [2] ∧
    base.ball.coupled = true ∧ (2 : Byte) ≠ 0 ∧ (2 : Byte) ≠ 1 :=
  ⟨by decide, ready_open rfl rfl _ _, ready_open rfl rfl _ _, ready_open rfl rfl _ _, by decide, by decide, by decide⟩

/-- `base` with slot 300 FILLED and entry 0 ENABLED at slot 165. -/
def stored : State := (patched .unset).setStore { base.store with slots := [(300, .filled venus)] }

theorem witness_LowestCoveringCandidateWins :
    SlotMap.wf stored.store.slots = true ∧ (winner stored 5 0).map (·.rank) = some 165 ∧
    IsCandidate stored 5 ⟨165, venus, true⟩ ∧ CoversAt venus 0 ∧ CoversAt venus 86399999 ∧ ¬ CoversAt venus 86400000 :=
  ⟨by decide, by decide +kernel, .inl ⟨0, 165, venus, rfl, rfl, rfl⟩, by unfold CoversAt; decide,
    by unfold CoversAt; decide, by unfold CoversAt; decide⟩

/-- The bounds of every field of a segment. -/
theorem witness_RecordRoundTrips_segment :
    SegmentFits venus ∧ SegmentFits ⟨12, -315576000000, 1, 0, -2 ^ 31, -2 ^ 31, -2 ^ 31⟩ ∧
    SegmentFits ⟨0, 315576000000 - (2 ^ 32 - 1), 2 ^ 32 - 1, 2 ^ 32 - 1, 2 ^ 31 - 1, 2 ^ 31 - 1, 2 ^ 31 - 1⟩ := by
  unfold SegmentFits
  decide

theorem witness_EvaluationWritesRecordAndPhase_won :
    winner stored 5 0 = some ⟨165, venus, true⟩ ∧ IsCandidate stored 5 ⟨165, venus, true⟩ ∧ CoversAt venus 0 ∧
    SegmentFits venus ∧ (165 : SlotNo) = Fin.ofNat 2016 165 :=
  ⟨by decide +kernel, .inl ⟨0, 165, venus, rfl, rfl, rfl⟩, by unfold CoversAt; decide, by unfold SegmentFits; decide, rfl⟩

theorem witness_EvaluationWritesRecordAndPhase_stale :
    winner (storeIn (.erasing 2 150)) 5 0 = none ∧ SlotHidden (storeIn (.erasing 2 150)).store.op 0 ∧
    ¬ PatchStands (storeIn (.erasing 2 150)) 0 := by
  refine ⟨by decide +kernel, ?_, ?_⟩
  · show SameBank _ _
    unfold SameBank
    decide
  · rintro ⟨i, m, g, h, -⟩
    have unset : ∀ j, (storeIn (.erasing 2 150)).patches.get j = .unset := by decide
    rw [unset i] at h
    cases h

theorem witness_EvaluationWritesRecordAndPhase_uncovered :
    winner base 5 0 = none ∧ ∀ n < 2016, SlotHidden base.store.op n → PatchStands base n :=
  ⟨by decide +kernel, fun _ _ h => h.elim⟩

/-- A state in which both phase tracks are found, and one in which neither is. -/
theorem witness_EvaluationWritesRecordAndPhase_phase :
    let moon : Segment := ⟨1, 0, 86400, 23305360, 0, 0, 0⟩
    let sun : Segment := ⟨0, 0, 86400, 3000000000, 0, 0, 0⟩
    let s := base.setStore { base.store with slots := [(5, .filled moon), (6, .filled sun)] }
    ((evaluateTrack (evaluateTrack s 1) 0).eph.tracks.get 1).source = .covered 5 ∧
    ((evaluateTrack (evaluateTrack s 1) 0).eph.tracks.get 0).source = .covered 6 ∧
    (evaluatePhase s).eph.phase = 1318272656 ∧
    ((evaluateTrack (evaluateTrack base 1) 0).eph.tracks.get 1).source = .uncovered := by decide +kernel

theorem witness_PatchEntriesSetAndEnabled_set :
    SegmentFits venus ∧ Ready (patched .unset) .s 0x07 (beBytes 1 7 ++ beBytes 2 2015 ++ segmentBytes venus) ∧
    Ready (patched .unset) .d 0x07 (beBytes 1 0 ++ beBytes 2 0 ++ segmentBytes venus) ∧
    (patched .unset).grant.holder = some .s ∧ (patched .unset).patches.get 0 = .enabled 165 venus ∧
    ∀ m h, (patched .unset).patches.get 7 ≠ .enabled m h := by
  refine ⟨by unfold SegmentFits; decide, ready_open rfl rfl _ _, ready_open rfl rfl _ _, by decide, by decide, ?_⟩
  rw [show (patched .unset).patches.get 7 = .unset by decide]
  nofun

theorem witness_PatchEntriesSetAndEnabled_enable :
    Ready (patched (.disabled 165 venus)) .s 0x08 [1] ∧ (patched (.disabled 165 venus)).patches.get 1 = .disabled 165 venus ∧
    (patched (.disabled 165 venus)).patches.get 0 = .enabled 165 venus ∧ (patched .unset).patches.get 1 = .unset ∧
    (∀ j h, (base.setPatches (base.patches.set 1 (.disabled 166 venus))).patches.get j ≠ .enabled 166 h) := by
  refine ⟨ready_open rfl rfl _ _, by decide, by decide, by decide, ?_⟩
  intro j h
  fin_cases j <;> nofun

theorem witness_PatchEntriesSetAndEnabled_disable :
    Ready (patched .unset) .s 0x09 [0] ∧ Ready (patched .unset) .s 0x09 [7] ∧
    (patched .unset).patches.get 0 = .enabled 165 venus ∧ (patched .unset).patches.get 7 = .unset :=
  ⟨ready_open rfl rfl _ _, ready_open rfl rfl _ _, by decide, by decide⟩

/-! #### The store -/

theorem witness_SegmentWriteAcceptedAndCompleted_request :
    SegmentFits venus ∧ (∀ op p, Ready (storeIn op) .s 0x10 p) ∧ (sectorOf 2015).val = 62 ∧ sectorOf 64 = 2 ∧
    (2 : SectorNo) ≠ sectorOf 1300 ∧ StoreOp.writing 0 venus ≠ .idle :=
  ⟨by unfold SegmentFits; decide, fun _ _ => ready_open rfl rfl _ _, by decide, by decide, by decide, by decide⟩

theorem witness_SegmentWriteAcceptedAndCompleted_completion :
    SlotMap.wf stored.store.slots = true ∧
    (stored.setStore { stored.store with op := .writing 2015 venus, deferred := true }).store.op = .writing 2015 venus ∧
    (stored.setStore { stored.store with op := .writingInSuspend 1300 venus 2 0 }).store.op =
      .writingInSuspend 1300 venus 2 0 := by decide

theorem witness_EraseRunsThroughSuspension :
    (∀ op k p, Ready (storeIn op) .s k p) ∧ SlotMap.wf (storeIn (.erasing 62 0)).store.slots = true ∧
    (storeIn (.erasing 62 0)).store.op = .erasing 62 0 ∧ (storeIn (.erasing 62 1)).store.op = .erasing 62 (0 + 1) ∧
    (∀ sec left, StoreOp.idle ≠ .erasing sec left) ∧ (∀ sec left, StoreOp.idle ≠ .eraseSuspended sec left) ∧
    (∀ n g sec left, StoreOp.idle ≠ .writingInSuspend n g sec left) :=
  ⟨fun _ _ _ => ready_open rfl rfl _ _, by decide, rfl, rfl, nofun, nofun, nofun⟩

/-- Begin 63 and 255, and counts at and past what is left of the store. -/
theorem witness_SectorCheckCoversRun :
    (∀ p, Ready (storeIn .idle) .d 0x14 p) ∧ (63 : Nat) < 256 ∧ (255 : Nat) < 256 ∧
    (storeIn (.checking 60 3 2 0xFFFF#16)).store.op = .checking 60 3 2 0xFFFF#16 ∧
    (storeIn (.checking 60 3 3 0xFFFF#16)).store.op = .checking 60 3 3 0xFFFF#16 ∧ (62 : Nat) < 63 :=
  ⟨fun _ => ready_open rfl rfl _ _, by decide, by decide, rfl, rfl, by decide⟩

/-- The bytes of sector 9 with its slot 300 FILLED: eleven EMPTY slots before it and nineteen after. -/
theorem test_sector_bytes :
    sectorBytes stored.store 9 = List.replicate 12 0x00 ++ 0x01 :: segmentBytes venus ++ List.replicate 19 0x00 := by
  decide

theorem witness_CheckReportsCrcOfRun :
    (storeIn (.checking 60 3 0 0xFFFF#16)).store.op = .checking 60 3 0 0xFFFF#16 ∧
    (storeIn (.checking 60 3 0 0xFFFF#16)).pending = [] := ⟨rfl, rfl⟩

theorem witness_SaveWritesTheCopy :
    base.grant.holder = some .s ∧ Ready (storeIn .idle) .s 0x15 [] ∧
    (storeIn (.saving .erase ParamSet.builtIn)).store.op = .saving .erase ParamSet.builtIn ∧
    (storeIn (.saving .write ParamSet.builtIn)).store.op = .saving .write ParamSet.builtIn :=
  ⟨by decide, ready_open rfl rfl _ _, rfl, rfl⟩

/-- The last slot of bank A and the first of bank B while a save runs; a suspended sector's slots. -/
theorem witness_ReadSegmentAndProtect_read :
    (∀ op p, Ready (storeIn op) .d 0x16 p) ∧ ¬ SlotHidden (.saving .erase ParamSet.builtIn) 1023 ∧
    SlotHidden (.saving .erase ParamSet.builtIn) 1024 ∧ SlotAway (.eraseSuspended 2 9) 95 ∧
    ¬ SlotAway (.eraseSuspended 2 9) 96 ∧ ¬ SlotHidden (.eraseSuspended 2 9) 96 := by
  refine ⟨fun _ _ => ready_open rfl rfl _ _, ?_⟩
  simp [SlotHidden, SlotAway]

theorem witness_ReadSegmentAndProtect_protect :
    (∀ op p, Ready (storeIn op) .d 0x17 p) ∧ (1300 : SlotNo).val / 32 = (40 : SectorNo).val ∧
    (storeIn (.writing 1300 venus)).store.op = .writing 1300 venus ∧
    (¬ ∃ n g, (n : SlotNo).val / 32 = 2 ∧ (StoreOp.idle = .writing n g ∨ ∃ e left, StoreOp.idle = .writingInSuspend n g e left)) :=
  ⟨fun _ _ => ready_open rfl rfl _ _, by decide, rfl, by simp⟩

theorem witness_RecordRoundTrips_parameters : ParamSetLegal ParamSet.builtIn := by
  unfold ParamSetLegal ParamsCarried ParamsLegal
  decide

/-! #### Axis channels -/

theorem witness_UpdateInTrack :
    Unwatched (axisIn 0 (chan .track)) (.axis 0) ∧ ((axisIn 0 (chan .track)).axis 0).mode = .track :=
  ⟨unwatched_of_free (by decide) _, by decide⟩

theorem witness_UpdateInMoveAndAtRest_move : Unwatched (moving 0 0 0) (.axis 1) ∧ ((moving 0 0 0).axis 1).mode = .move 10000000 :=
  ⟨unwatched_of_free (by decide) _, by decide⟩

theorem witness_UpdateInMoveAndAtRest_rest :
    (∀ m, Unwatched (axisIn 1 (chan m)) (.axis 1)) ∧ (∀ m, ((axisIn 1 (chan m)).axis 1).mode = m) :=
  ⟨fun _ => unwatched_of_free (show ∀ i, (base.watches.get i).definition = none by decide) _, fun _ => rfl⟩

/-- The seek limit exactly, and passed by one turn unit. -/
theorem witness_UpdateInHoming_seek :
    (∀ h p v, Unwatched (homing4 h p v) (.axis 4)) ∧
    ((homing4 ⟨.seek, 5368709120 - 8000000, 0⟩ 0 8000000).axis 4).mode = .homing ⟨.seek, 5368709120 - 8000000, 0⟩ ∧
    ((after (.profileUpdate 4) (homing4 ⟨.seek, 5368709120 - 8000000, 0⟩ 0 8000000)).axis 4).mode =
      .homing ⟨.seek, 5368709120, 0⟩ ∧
    ((after (.profileUpdate 4) (homing4 ⟨.seek, 5368709121 - 8000000, 0⟩ 0 8000000)).axis 4).mode = .fault .homeTimeout :=
  ⟨fun _ _ _ => unwatched_of_free (show ∀ i, (base.watches.get i).definition = none by decide) _, by decide, by decide,
    by decide⟩

/-- BACKOFF and CREEP, and the ends of SETTLE: on a bound of the window, and past it. -/
theorem witness_UpdateInHoming_phases :
    ((homing4 ⟨.backoff, 68000000, 0⟩ 0 1000000).axis 4).mode = .homing ⟨.backoff, 68000000, 0⟩ ∧
    ((homing4 ⟨.creep, 68000000, 0⟩ 0 0).axis 4).mode = .homing ⟨.creep, 68000000, 0⟩ ∧
    ((after (.profileUpdate 4) (homing4 ⟨.settle, 0, 0⟩ 4294967296 1000000)).axis 4).mode = .parked ∧
    ((after (.profileUpdate 4) (homing4 ⟨.settle, 0, 0⟩ 4294967297 1000000)).axis 4).mode = .fault .homeRange ∧
    ((after (.profileUpdate 4) (homing4 ⟨.settle, 0, 0⟩ 0 1000001)).axis 4).mode = .homing ⟨.settle, 0, 0⟩ := by decide

/-- An effective vmax of 0 in SEEK past its limit, in BACKOFF and in SETTLE; and one above 0. -/
theorem witness_UpdateInHoming_still :
    (∀ h, speedLimit (crawling h) ((crawling h).axis 4) = 0) ∧ (∀ h, Unwatched (crawling h) (.axis 4)) ∧
    (∀ h, ((crawling h).axis 4).mode = .homing h) ∧ ∀ h p v, speedLimit (homing4 h p v) ((homing4 h p v).axis 4) ≠ 0 :=
  ⟨fun _ => rfl, fun _ => unwatched_of_free (show ∀ i, (base.watches.get i).definition = none by decide) _, fun _ => rfl,
    fun _ _ _ => by show (16000000 : Int) ≠ 0; decide⟩

/-- `s` with a GLOBAL, enabled entry on an axis. -/
def watchOn (s : State) (a : Axis) (condition : WatchCondition) (reference width : Int) (action : WatchAction) : State :=
  s.setWatches (s.watches.set 0
    { definition := some ⟨.s, .global, true, .axis a, condition, reference, width, action⟩, hit := false, met := false })

/-- R166, R172: axis 1 moves from 0 to 1,000,000 and a PAUSE at 500,000 stops the running clock where it stands. -/
theorem test_update_pauses :
    let t := after (.profileUpdate 1) ((watchOn (moving 0 0 0) 1 .up 500000 1 .pause).setClock { t := 9, r := 256, rt := 256 })
    t.clock = { t := 9, r := 0, rt := 0 } ∧ (t.watches.get 0).hit = true ∧ events t = [.watch 0 (.axis 1) .pause] := by
  decide +kernel

/-- R168: axis 4 moves from -1,000,000 to 1,000,000 and crosses the reference 0 of its turn upward, not downward. -/
theorem test_update_crosses_turn :
    events (after (.profileUpdate 4) (watchOn (homing4 ⟨.seek, 0, 0⟩ (-1000000) 1000000) 4 .up 0 1 .report)) =
      [.watch 0 (.axis 4) .report] ∧
    events (after (.profileUpdate 4) (watchOn (homing4 ⟨.seek, 0, 0⟩ (-1000000) 1000000) 4 .down 0 1 .report)) = [] := by
  decide +kernel

/-- A PAUSE met on a bounded axis, and none; the turn met, at its reference exactly and a window entered round it. -/
theorem witness_UpdateOverWatchedAxis :
    (let w : WatchDef := ⟨.s, .global, true, .axis 1, .up, 500000, 1, .pause⟩
     PausesAt (watchOn (moving 0 0 0) 1 .up 500000 1 .pause) (.axis 1) (fun w => AxisMeets 1 w 0 1000000) 500000 ∧
     AxisMeets 1 w 0 500000 ∧ ¬ AxisMeets 1 w 500000 1000000) ∧
    (∀ r, ¬ PausesAt (moving 0 0 0) (.axis 1) (fun w => AxisMeets 1 w 0 1000000) r) ∧
    TurnMeets ⟨.s, .global, true, .axis 4, .up, 0, 1, .report⟩ (-1) 0 ∧
    TurnMeets ⟨.s, .global, true, .axis 4, .down, 2 ^ 32 - 1, 1, .report⟩ 0 (-1) ∧
    TurnMeets ⟨.s, .global, true, .axis 4, .inside, 2 ^ 32 - 2, 4, .report⟩ 2 1 := by
  refine ⟨⟨⟨0, _, ⟨rfl, rfl, rfl, ?_⟩, rfl, rfl⟩, ?_, ?_⟩, ?_, ?_, ?_, ?_⟩
  · simp [AxisMeets, StepMeets, bounded]
  · simp [AxisMeets, StepMeets, bounded]
  · simp [AxisMeets, StepMeets, bounded]
  · rintro r ⟨i, w, ⟨h, -⟩, -⟩
    have free : ∀ j, ((moving 0 0 0).watches.get j).definition = none := by decide
    rw [free i] at h
    cases h
  · simp [TurnMeets]
  · simp [TurnMeets]
  · simp [TurnMeets]

/-- The blanking distance exactly, and short of it by one turn unit. -/
theorem witness_IndexEdgeByPhase :
    ((homing4 ⟨.seek, 0, 0⟩ 0 0).axis 4).mode = .homing ⟨.seek, 0, 0⟩ ∧
    ((homing4 ⟨.creep, 0, 2 ^ 24⟩ 0 0).axis 4).mode = .homing ⟨.creep, 0, 2 ^ 24⟩ ∧
    ((after (.indexEdge 4) (homing4 ⟨.creep, 0, 2 ^ 24⟩ 0 0)).axis 4).mode = .homing ⟨.settle, 0, 2 ^ 24⟩ ∧
    (∀ h, ((homing4 ⟨.creep, 0, 2 ^ 24 - 1⟩ 0 0).axis 4).mode = .homing h →
      h.phase = .backoff ∨ h.phase = .settle ∨ (h.phase = .creep ∧ h.creepDistance < 2 ^ 24)) ∧
    (∀ h, (base.axis 4).mode = .homing h →
      h.phase = .backoff ∨ h.phase = .settle ∨ (h.phase = .creep ∧ h.creepDistance < 2 ^ 24)) := by
  refine ⟨by decide, by decide, by decide, ?_, ?_⟩
  · rw [show ((homing4 ⟨.creep, 0, 2 ^ 24 - 1⟩ 0 0).axis 4).mode = .homing ⟨.creep, 0, 2 ^ 24 - 1⟩ from rfl]
    rintro h ⟨⟩
    exact .inr (.inr ⟨rfl, by decide⟩)
  · rw [show (base.axis 4).mode = .parked from rfl]
    rintro h ⟨⟩

/-- The lowest and the highest set; axes that may track, and the three ways to fail. -/
theorem witness_TrackAllOrNone :
    (0 < 1 ∧ 2 ^ 17 - 1 < 2 ^ 17) ∧ base.grant.holder = some .s ∧ base.inHold = false ∧
    (∀ m n, Ready (axisIn 0 (chan m)) .s 0x20 (beBytes 3 n)) ∧
    ((axisIn 0 (chan .track)).axis 0).referenced = true ∧ (Nat.testBit 1 0 = true ∧ ∀ b : Axis, ¬ b < 0) ∧
    (∀ cause, ((axisIn 0 (chan .parked)).axis 0).mode ≠ .fault cause) ∧
    ((axisIn 0 (chan .parked)).axis 0).referenced = false ∧
    ((axisIn 0 { chan .held with referenced := true }).axis 0).mode = .held := by
  refine ⟨by decide, by decide, by decide, fun _ _ => ready_open rfl rfl _ _, by decide, by decide, ?_, by decide, by decide⟩
  rw [show ((axisIn 0 (chan .parked)).axis 0).mode = .parked from rfl]
  nofun

theorem witness_MoveTakesDestination_bounded :
    let s := axisIn 1 { chan .parked with referenced := true }
    s.grant.holder = some .s ∧ s.inHold = false ∧ (s.axis 1).referenced = true ∧ (s.axis 1).mode = .parked ∧
    bounded 1 = true ∧ Ready s .s 0x21 (beBytes 1 1 ++ beBytes 4 (-2 ^ 31) ++ beBytes 1 2) :=
  ⟨by decide, by decide, by decide, by decide, by decide, ready_open rfl rfl _ _⟩

/-- Axis 9 of the worked example: the half turn exactly, P itself, and one short of a whole turn either way. -/
theorem witness_MoveTakesDestination_rotary :
    parked9.grant.holder = some .s ∧ parked9.inHold = false ∧ (parked9.axis 9).referenced = true ∧
    (parked9.axis 9).mode = .parked ∧ bounded 9 = false ∧ (∀ p, Ready parked9 .s 0x21 p) ∧
    (-300000000 - 2 ^ 31 - 1847483648) % (2 : Int) ^ 32 = 0 ∧ (-300000000 - 3994967296) % (2 : Int) ^ 32 = 0 ∧
    (-300000000 + 2 ^ 32 - 1 - 3994967295) % (2 : Int) ^ 32 = 0 ∧
    (-300000000 - 2 ^ 32 + 1 - 3994967297) % (2 : Int) ^ 32 = 0 :=
  ⟨by decide, by decide, by decide, by decide, by decide, fun _ => ready_open rfl rfl _ _, by decide, by decide, by decide,
    by decide⟩

/-- FAULT, not REFERENCED, and REFERENCED but waiting for a retry. -/
theorem witness_MoveTakesDestination_refusals :
    (∀ c p, (axisIn 1 c).grant.holder = some .s ∧ (axisIn 1 c).inHold = false ∧ Ready (axisIn 1 c) .s 0x21 p) ∧
    (∀ m, ((axisIn 1 (chan m)).axis 1).mode = m) ∧ ((axisIn 1 (chan .parked)).axis 1).referenced = false ∧
    (let c := (axisIn 1 { chan (.recovering .track 10) with referenced := true }).axis 1
     c.referenced = true ∧ (∀ cause, c.mode ≠ .fault cause) ∧
      ¬ (c.mode = .parked ∨ c.mode = .track ∨ (∃ x, c.mode = .move x) ∨ ∃ next, c.mode = .stopping next)) := by
  refine ⟨fun _ _ => ⟨rfl, rfl, ready_open rfl rfl _ _⟩, fun _ => rfl, rfl, ?_⟩
  show _ ∧ (∀ cause, Mode.recovering .track 10 ≠ .fault cause) ∧ ¬ (Mode.recovering .track 10 = .parked ∨ _ ∨ _ ∨ _)
  exact ⟨rfl, nofun, by rintro (h | h | ⟨x, h⟩ | ⟨next, h⟩) <;> cases h⟩

theorem witness_ParkAndHomeBySet :
    (0 < 1 ∧ 2 ^ 17 - 1 < 2 ^ 17) ∧ base.grant.holder = some .s ∧ base.inHold = false ∧
    (∀ a m n, Ready (axisIn a (chan m)) .s 0x22 (beBytes 3 n) ∧ Ready (axisIn a (chan m)) .s 0x25 (beBytes 3 n)) ∧
    (∀ m, ((axisIn 16 (chan m)).axis 16).mode = m) ∧ Nat.testBit (2 ^ 17 - 1) 16 = true ∧
    ∀ b : Axis, b < 16 → ((axisIn 16 (chan .track)).axis b).mode = .parked :=
  ⟨by decide, by decide, by decide, fun _ _ _ => ⟨ready_open rfl rfl _ _, ready_open rfl rfl _ _⟩, fun _ => rfl, by decide,
    by decide⟩

theorem witness_SetAxisParamByParameter :
    (∀ a, ParamsLegal a AxisParams.builtIn) ∧ ParamCarried 0 (2 ^ 32 - 1) ∧ ParamCarried 5 (-2 ^ 31) ∧
    base.grant.holder = some .s ∧ base.inHold = false ∧ (∀ p, Ready base .s 0x23 p) ∧
    paramTaken 1 AxisParams.builtIn 8 0 = none ∧ paramTaken 0 AxisParams.builtIn 255 0 = none ∧
    paramTaken 1 AxisParams.builtIn 0 (2 ^ 32 - 1) = some ({ AxisParams.builtIn with gear := 4194304 }, true) ∧
    paramTaken 1 AxisParams.builtIn 6 (2 ^ 30) = some ({ AxisParams.builtIn with travelMin := 2 ^ 30 }, false) ∧
    ¬ ParamsConsistent 1 { AxisParams.builtIn with travelMin := 2 ^ 30 } ∧ ParamsConsistent 1 AxisParams.builtIn := by
  refine ⟨?_, ?_, ?_, by decide, by decide, fun _ => ready_open rfl rfl _ _, by decide, by decide, by decide, by decide,
    ?_, ?_⟩
  · unfold ParamsLegal; decide
  · unfold ParamCarried; decide
  · unfold ParamCarried; decide
  · unfold ParamsConsistent; decide
  · unfold ParamsConsistent; decide

theorem witness_ReadsCarryWhatStands : (∀ k p, Ready base .d k p) ∧ ∀ k p, Ready holding .d k p :=
  ⟨fun _ _ => ready_open rfl rfl _ _, fun _ _ => ready_open rfl rfl _ _⟩

/-! #### Drive protection -/

/-- Counts 0, 1 and 2 in every mode and under both recovery modes. -/
theorem witness_QualifiedTripByMode :
    (∀ m, ((mars m 3 none).axis 11).tripCount ≤ 3) ∧ (∀ m n w, ((mars m n w).axis 11).mode = m) ∧
    (∀ m n w, ((mars m n w).axis 11).params.recovery = .retry) ∧ (∀ m, ((axisIn 1 (chan m)).axis 1).params.recovery = .manual) ∧
    ((mars .track 1 (some 5)).axis 11).tripCount < 2 ∧ 2 ≤ ((mars .track 2 (some 5)).axis 11).tripCount :=
  ⟨fun _ => by show 3 ≤ 3; decide, fun _ _ _ => rfl, fun _ _ _ => rfl, fun _ => rfl, by decide, by decide⟩

/-- The filter: below the width and at it, the width kept, and an activation that has qualified or was never told of. -/
theorem witness_QualifiedTripByMode_filter :
    let line (x : TripLine) : State := (mars .track 0 none).setTripLine 11 x
    19 < filterMicros ((mars .track 0 none).axis 11).params.tripFilter ∧
    filterMicros ((mars .track 0 none).axis 11).params.tripFilter ≤ 20 ∧
    ((line (.filtering .us80)).axis 11).tripLine = .filtering .us80 ∧ 79 < filterMicros .us80 ∧ filterMicros .us80 ≤ 80 ∧
    ((line .inactive).axis 11).tripLine = .inactive ∧ ((line .qualified).axis 11).tripLine = .qualified ∧
    filterMicros .us0 ≤ 0 := by decide

theorem witness_RetryAndWindowExpiry :
    (∀ prior n, ((mars (.recovering prior n) 1 (some 0)).axis 11).mode = .recovering prior n) ∧
    (∀ m w, ((mars m 1 w).axis 11).tripCount < 2 ∧ 2 ≤ ((mars m 2 w).axis 11).tripCount) ∧
    (∀ m n w, n ≤ 3 → ((mars m n w).axis 11).tripCount ≤ 3) ∧
    ∀ left, ((mars .track 3 (some left)).axis 11).tripWindow = some left :=
  ⟨fun _ _ => rfl, fun _ _ => ⟨by show 1 < 2; decide, by show 2 ≤ 2; decide⟩, fun _ _ _ h => h, fun _ => rfl⟩

theorem witness_EndSwitchFaultsAxis : bounded 1 = true ∧ bounded 16 = true := by decide

theorem witness_EndSwitchFaultsAxis_reset : ∃ t, exec (.deviceReset [] []) base = .next t := ⟨_, rfl⟩

/-- The hold level exactly, and one degree short of it, from every hold state. -/
theorem witness_ThermalSampleWarnsAndHolds :
    base.thermal.tw + 15 ≤ 100 ∧ base.thermal.overMark = false ∧ 99 < base.thermal.tw + 15 ∧
    base.holdCtl = .normal none ∧ holding.thermal.overMark = false ∧ (∃ snap, holding.holdCtl = .hold snap none) ∧
    ∃ snap, (after (.endSwitch 14 .high) holding).holdCtl = .hold snap (some (.axisFault 14 .endSwitch)) :=
  ⟨by decide, by decide, by decide, rfl, by decide, ⟨_, rfl⟩, ⟨_, rfl⟩⟩

theorem witness_ClearFaultAndThermalLimit_fault :
    let s := axisIn 14 (chan (.fault .endSwitch))
    s.grant.holder = some .s ∧ (∀ p, Ready s .s 0x26 p) ∧ (s.axis 14).mode = .fault .endSwitch ∧ bounded 14 = true ∧
    ∀ cause, (s.axis 0).mode ≠ .fault cause := by
  refine ⟨by decide, fun _ => ready_open rfl rfl _ _, by decide, by decide, ?_⟩
  rw [show ((axisIn 14 (chan (.fault .endSwitch))).axis 0).mode = .parked from rfl]
  nofun

/-- Below, at and above each end, and just under a multiple of five. -/
theorem witness_ClearFaultAndThermalLimit_limit :
    (∀ p, Ready base .s 0x27 p) ∧ ((-128 : Int) < 60 ∧ (60 : Int) % 5 = 0) ∧ ((115 : Int) < 127 ∧ (115 : Int) % 5 = 0) ∧
    ((60 : Int) ≤ 60 ∧ (60 : Int) < 60 + 5) ∧ ((60 : Int) ≤ 64 ∧ (64 : Int) < 60 + 5) ∧ ((115 : Int) ≤ 115) :=
  ⟨fun _ => ready_open rfl rfl _ _, by decide, by decide, by decide, by decide, by decide⟩

/-! #### Hold and resume -/

theorem witness_HoldEntersOnce :
    Ready base .d 0x30 [] ∧ base.inHold = false ∧ (∀ a : Axis, (base.axis a).mode ≠ .held) ∧ Ready holding .d 0x30 [] ∧
    holding.inHold = true :=
  ⟨ready_open rfl rfl _ _, by decide, by decide, ready_open rfl rfl _ _, by decide⟩

/-- `holding` with a latest sample. -/
def sampled (x : Int) : State := holding.setThermal { holding.thermal with latest := some x }

/-- At TW + 10 the part is too hot to resume, one degree below it is not. -/
theorem witness_ResumeChecksAndPendingCause_resume :
    (∀ l p, Ready (sampled 95) l 0x31 p) ∧ (sampled 95).grant.holder = some .s ∧ (sampled 95).inHold = true ∧
    (∃ x, (sampled 95).thermal.latest = some x ∧ (sampled 95).thermal.tw + 10 ≤ x) ∧
    (¬ ∃ x, (sampled 94).thermal.latest = some x ∧ (sampled 94).thermal.tw + 10 ≤ x) ∧
    (∃ snap, (after (.endSwitch 14 .high) (sampled 94)).holdCtl = .hold snap (some (.axisFault 14 .endSwitch))) ∧
    base.inHold = false := by
  refine ⟨fun l _ => by cases l <;> exact ready_open rfl rfl _ _, by decide, by decide, ⟨95, by decide⟩, ?_, ⟨_, rfl⟩, by decide⟩
  rintro ⟨x, h, hot⟩
  rw [show (sampled 94).thermal.latest = some 94 from rfl] at h
  cases h
  revert hot
  decide

/-- The limits of sky time and the ends of the eight bytes as resume times. -/
theorem witness_ResumeChecksAndPendingCause_edit :
    (∀ l p, Ready holding l 0x33 p) ∧ (∃ snap, holding.holdCtl = .hold snap none) ∧ -2 ^ 63 ≤ skyMin ∧
    skyMax < (2 : Int) ^ 63 ∧ ¬ (skyMax < skyMin ∨ skyMax < skyMax) ∧ skyMax < skyMax + 1 :=
  ⟨fun l _ => by cases l <;> exact ready_open rfl rfl _ _, ⟨_, rfl⟩, by decide, by decide, by decide, by decide⟩

theorem witness_ResumeRestoresTheShow :
    ∃ snap, Ready (sampled 94) .s 0x31 [] ∧ Ready (sampled 94) .c 0x31 [] ∧ (sampled 94).grant.holder = some .s ∧
      (sampled 94).holdCtl = .hold snap none ∧
      (∀ x, (sampled 94).thermal.latest = some x → x < (sampled 94).thermal.tw + 10) ∧ snap.resumeTime = snap.entryT ∧
      NoInsideOnSky (sampled 94) := by
  refine ⟨_, ready_open rfl rfl _ _, ready_open rfl rfl _ _, by decide, rfl, ?_, rfl, no_inside_of_free (by decide)⟩
  rw [show (sampled 94).thermal.latest = some 94 from rfl]
  rintro x ⟨⟩
  decide

/-- A window on sky time that a jump to 2,560 enters, with the action HOLD. -/
def window : WatchDef := ⟨.s, .global, true, .skyTime, .inside, 2560, 256, .hold⟩

/-- R11, R169: SET TIME and NUDGE into the window fire it and enter hold; from inside it nothing is met. -/
theorem test_jump_fires_inside :
    events (after (.setTime .s (beBytes 8 10)) (watching window)) =
      [.watch 0 .skyTime .hold, .holdEntered (.watch 0) 2560] ∧
    events (after (.nudge .s (beBytes 8 255)) ((watching window).setClock { t := 2560, r := 0, rt := 0 })) = [] := by decide

/-- R158: RESUME at an edited time within the window: RESUMED, then WATCH and hold entered anew. -/
theorem test_resume_fires_inside :
    events (after (.resume .s []) ((after (.snapshotEdit .s (0 :: beBytes 8 2561)) holding |>.setLink .s LinkState.reset).setWatches
      (watching window).watches)) = [.resumed 2561 0, .watch 0 .skyTime .hold, .holdEntered (.watch 0) 2561] := by decide

theorem witness_JumpTestsInsideWatches :
    (∀ i w, ((watching window).watches.get i).definition = some w → WatchLegal w) ∧
    (watching window).grant.holder = some .s ∧ (watching window).inHold = false ∧ (∀ k p, Ready (watching window) .s k p) ∧
    JumpMeets window 0 2560 ∧ JumpMeets window 2816 2815 ∧ ¬ JumpMeets window 2560 2815 ∧ ¬ JumpMeets window 0 2816 := by
  refine ⟨?_, by decide, by decide, fun _ _ => ready_open rfl rfl _ _, ?_⟩
  · intro i w h
    have only : ∀ j, ((watching window).watches.get j).definition = some window ∨
        ((watching window).watches.get j).definition = none := by decide
    rcases only i with e | e
    · rw [e] at h
      cases h
      exact ⟨by decide, by decide, fun _ => by decide, fun a h => by cases h⟩
    · rw [e] at h
      cases h
  · simp [JumpMeets, StepMeets, window]

theorem witness_JumpTestsInsideWatches_resume :
    let s := after (.snapshotEdit .s (0 :: beBytes 8 2561)) (sampled 94) |>.setLink .s LinkState.reset
    ∃ snap, s.holdCtl = .hold snap none ∧ snap.resumeTime ≠ snap.entryT ∧ s.grant.holder = some .s ∧ Ready s .s 0x31 [] ∧
      ∀ x, s.thermal.latest = some x → x < s.thermal.tw + 10 := by
  refine ⟨_, rfl, by decide, by decide, ready_open rfl rfl _ _, ?_⟩
  rintro x ⟨⟩
  decide

/-! #### Watches -/

/-- Widths 0, 1, 2^31 and beyond, references at the limits of sky time and past one. -/
theorem witness_WatchSetDefinesEntry :
    (∀ l p, Ready base l 0x38 p) ∧ (∀ p, Ready (watching sunset) .d 0x38 p) ∧ base.grant.holder = some .s ∧
    (¬ ∃ w, (base.watches.get 0).definition = some w ∧ w.owner ≠ .s ∧ Link.s ≠ .c) ∧
    (∃ w, ((watching sunset).watches.get 0).definition = some w ∧ w.owner ≠ .d ∧ Link.d ≠ .c) ∧
    ¬ ((1 : Int) < 1 ∨ (2 : Int) ^ 31 < 1 ∨ (WatchSubject.skyTime = .skyTime ∧ (skyMax < skyMin ∨ skyMax < skyMax))) ∧
    (0 : Int) < 1 ∧ (2 : Int) ^ 31 < 2 ^ 32 - 1 := by
  refine ⟨fun l _ => by cases l <;> exact ready_open rfl rfl _ _, fun _ => ready_open rfl rfl _ _, by decide, ?_,
    ⟨sunset, by decide⟩, by decide, by decide, by decide⟩
  rintro ⟨w, h, -⟩
  rw [show (base.watches.get 0).definition = none from rfl] at h
  cases h

/-- The first value past each list, the codes between the last axis and SKY TIME, and the one forbidden combination. -/
theorem witness_WatchSetDefinesEntry_malformed :
    (∀ p, Ready base .d 0x38 p) ∧
    (∀ p ∈ ([[4, 0, 255, 0], [0, 2, 255, 0], [0, 0, 17, 0], [0, 0, 254, 0], [0, 0, 255, 4]] : List (List Byte)),
      replyOn .d (after (.watchSet .d (p ++ List.replicate 12 0 ++ [0])) base) = some .malformed) ∧
    replyOn .d (after (.watchSet .d ([0, 1, 255, 0] ++ List.replicate 12 0 ++ [3])) base) = some .malformed ∧
    replyOn .d (after (.watchSet .d ([0, 1, 255, 3] ++ List.replicate 12 0 ++ [1])) base) = some .malformed ∧
    replyOn .d (after (.watchSet .d ([0, 1, 16, 3] ++ beBytes 8 0 ++ beBytes 4 1 ++ [1])) base) = some .ok :=
  ⟨fun _ => ready_open rfl rfl _ _, by decide, by decide, by decide, by decide⟩

/-- The owner, another link, Link C, and a FREE entry; a LOCAL entry without the grant; marks 0 and 255. -/
theorem witness_WatchEntryRequests :
    (∀ l k p, Ready (watching sunset) l k p) ∧ ((watching sunset).watches.get 0).definition = some sunset ∧
    sunset.owner = .s ∧ sunset.owner ≠ .d ∧ Link.d ≠ .c ∧ ((watching sunset).watches.get 3).definition = none ∧
    sunset.scope = .local_ ∧ (watching sunset).grant.holder = some .s ∧
    ((watching sunset).setGrant { holder := none, queue := [] }).grant.holder ≠ some .c ∧ (255 : Nat) < 256 :=
  ⟨fun l _ _ => by cases l <;> exact ready_open rfl rfl _ _, by decide, by decide, by decide, by decide, by decide, by decide,
    by decide, by decide, by decide⟩

/-- The clock law of any state whose entries are FREE and which is in NORMAL. -/
theorem clock_law_of_free {s : State} (range : ClockInRange s.clock) (free : ∀ i, (s.watches.get i).definition = none)
    (normal : s.holdCtl = .normal none) : ClockLaw s := by
  refine ⟨range, ?_, ?_⟩
  · intro i w h
    simp [free i] at h
  · intro snap p h
    simp [normal] at h

theorem sunset_legal : WatchLegal sunset := by
  refine ⟨by decide, by decide, fun _ => by decide, ?_⟩
  rintro a ⟨⟩

/-- Moment 2 of the worked example: the reference lies inside the step, at its end, and at its start; a PAUSE met, and
none. -/
theorem witness_ClockStepFiresWatches :
    let s := (watching sunset).setClock { t := 5375800000, r := 256000, rt := 256000 }
    (∀ i w, (s.watches.get i).definition = some w → WatchLegal w) ∧ (stepped s).clock.t = 5376056000 ∧
    PausesAt (stepped s) .skyTime (fun w => StepMeets w s.clock.t (stepped s).clock.t) 5376000000 ∧
    StepMeets sunset 5375999999 5376000000 ∧ ¬ StepMeets sunset 5376000000 5376000001 ∧
    ∀ r, ¬ PausesAt (stepped base) .skyTime (fun w => StepMeets w base.clock.t (stepped base).clock.t) r := by
  refine ⟨?_, by decide, ⟨0, sunset, ⟨rfl, rfl, rfl, ?_⟩, rfl, rfl⟩, by simp [StepMeets, sunset],
    by simp [StepMeets, sunset], ?_⟩
  · intro i w h
    replace h : ((watching sunset).watches.get i).definition = some w := h
    have only : ∀ j, ((watching sunset).watches.get j).definition = some sunset ∨
        ((watching sunset).watches.get j).definition = none := by decide
    rcases only i with e | e <;> rw [e] at h <;> cases h
    exact sunset_legal
  · show (5375800000 : Int) < 5376000000 ∧ (5376000000 : Int) ≤ 5376056000
    decide
  · rintro r ⟨i, w, ⟨h, -⟩, -⟩
    have free : ∀ j, ((stepped base).watches.get j).definition = none := by decide
    rw [free i] at h
    cases h

/-! #### Links and grant -/

theorem witness_WireCarriesFrame :
    (List.replicate 250 (0 : Byte)).length ≤ 250 ∧ (base.link .d).receiver = .hunting := by decide +kernel

/-- Hunting; a length byte at 250 and past it; a frame body that ends with a right and with a wrong check. -/
theorem witness_FramesComeIn_characters :
    (base.link .d).receiver = .hunting ∧ (0x5A : Byte) ≠ 0xA5 ∧ ([] : List Byte) ++ [250] = 250 :: [] ∧
    (250 : Byte).toNat ≤ 250 ∧ 250 < (251 : Byte).toNat ∧
    ([0x00, 0x4A, 0xF4] : List Byte) ++ [0x81] = 0x00 :: (0x4A :: ([] ++ [0xF4, 0x81])) ∧
    ([0xF4, 0x81] : List Byte) = crcBytes (crcOf (0x00 :: 0x4A :: [])) ∧
    ([0xF4, 0x80] : List Byte) ≠ crcBytes (crcOf (0x00 :: 0x4A :: [])) := by decide +kernel

/-- Three and four frames held. -/
theorem witness_FramesComeIn_arrivals :
    (List.replicate 3 (⟨0x30, []⟩ : Frame)).length < 4 ∧ 4 ≤ (List.replicate 4 (⟨0x30, []⟩ : Frame)).length ∧
    (List.replicate 250 (0 : Byte)).length ≤ 250 := by decide +kernel

/-- Seven and eight events waiting; a reply; a report alone; an event alone; nothing. -/
theorem witness_EventsAreQueuedAndFramesSent :
    (List.replicate 7 (Event.lagging 0)).length < 8 ∧ 8 ≤ (List.replicate 8 (Event.lagging 0)).length ∧
    (replying.link .d).reply = some ⟨0x30, .ok, .none⟩ ∧ (flagged.link .d).reply = none ∧
    ((flagged.setLink .d { flagged.link .d with report := some (collectReport base) }).link .d).report =
      some (collectReport base) ∧
    ((base.send (.lagging 3)).link .d).events = [.lagging 3] ∧ ((base.send (.lagging 3)).link .d).report = none ∧
    (base.link .d).reply = none ∧ (base.link .d).report = none ∧ (base.link .d).events = [] :=
  ⟨by decide, by decide, rfl, rfl, rfl, rfl, rfl, rfl, rfl, rfl⟩

theorem witness_ReportsAreCollected :
    (timers.link .d).reporting = .every .ms10 (0 + 1) ∧ (base.link .d).reporting = .off ∧
    ((base.setLink .d { LinkState.reset with reporting := .every .ms10 0 }).link .d).reporting = .every .ms10 0 ∧
    (∀ p, Ready base .d 0x49 p) ∧
    (9 : Byte).toNat ∉ [0, 10, 20, 50, 100, 200] ∧ (201 : Byte).toNat ∉ [0, 10, 20, 50, 100, 200] :=
  ⟨rfl, rfl, rfl, fun _ => ready_open rfl rfl _ _, by decide, by decide⟩

theorem witness_GuardArmsAndExpires :
    (∀ g p, Ready (guarded g) .d 0x48 p) ∧ ((guarded (.expired .ms50 .hold)).link .d).guard = .expired .ms50 .hold ∧
    ((guarded (.running .ms500 .release 0)).link .d).guard = .running .ms500 .release 0 ∧
    (guarded (.running .ms500 .release 0)).grant.holder = some .d ∧
    (timers.link .d).guard = .running .ms500 .hold 500 ∧ timers.grant.holder ≠ some .d :=
  ⟨fun _ _ => ready_open rfl rfl _ _, rfl, rfl, rfl, rfl, by decide⟩

/-- The grant law of any state whose entries are FREE. -/
theorem grant_law_waiting (holder : Link) (queue : List Link) (few : queue.length ≤ 2) (once : queue.Nodup)
    (out : holder ∉ queue) : GrantLaw (waiting (some holder) queue) := by
  refine ⟨few, once, ?_, ?_⟩
  · rintro l ⟨⟩
    exact out
  · rintro ⟨⟩

theorem witness_GrantPassesBetweenLinks :
    GrantLaw (waiting (some .s) [.d, .c]) ∧ GrantLaw (waiting (some .c) []) ∧ GrantLaw (waiting (some .s) []) ∧
    (∀ h q l k, Ready (waiting h q) l k []) ∧ Link.d ∈ [Link.d, .c] ∧ Link.c ∉ ([] : List Link) :=
  ⟨grant_law_waiting _ _ (by decide) (by decide) (by decide), grant_law_waiting _ _ (by decide) (by decide) (by decide),
    grant_law_waiting _ _ (by decide) (by decide) (by decide),
    fun _ _ l _ => by cases l <;> exact ready_open rfl rfl _ _, by decide, by decide⟩

theorem witness_GrantPassesBetweenLinks_free :
    GrantLaw (waiting none []) ∧ (waiting none []).grant.holder = none := by
  refine ⟨⟨by decide, by decide, ?_, fun _ => ⟨rfl, ?_⟩⟩, rfl⟩
  · rintro l ⟨⟩
  · intro i w h
    have free : ∀ j, ((waiting none []).watches.get j).definition = none := by decide
    simp [free i] at h

theorem witness_ReadStatusAndLinkReset :
    Ready (waiting (some .s) [.d]) .s 0x4B [] ∧ Ready (waiting (some .s) [.d]) .d 0x4B [] ∧ Ready flagged .d 0x4A [] ∧
    GrantLaw (waiting (some .s) [.d]) ∧ GrantLaw (waiting (some .s) []) :=
  ⟨ready_open rfl rfl _ _, ready_open rfl rfl _ _, ready_open rfl rfl _ _,
    grant_law_waiting _ _ (by decide) (by decide) (by decide), grant_law_waiting _ _ (by decide) (by decide) (by decide)⟩

/-! #### Device reset -/

theorem witness_DeviceResetSetsEveryBlock_load :
    ParamSetLegal ParamSet.builtIn ∧
    (∀ r, ((storeIn .idle).setStore { (storeIn .idle).store with record := r }).store.record = r) ∧
    (¬ ∃ phase copy, StoreOp.idle = .saving phase copy) := by
  exact ⟨witness_RecordRoundTrips_parameters, fun _ => rfl, by simp⟩

/-- The 570 bytes of 0xFF of a fresh record, fed 57 at a time, have the CRC 0x6CBD, which is not the 0xFFFF stored. -/
theorem test_fresh_record_fails_its_check : crcOf (List.replicate 570 0xFF) = 0x6CBD#16 := by
  have cut (n : Nat) : List.replicate (57 + n) (0xFF : Byte) = List.replicate 57 0xFF ++ List.replicate n 0xFF :=
    List.replicate_add ..
  rw [crcOf, show 570 = 57 + (57 + (57 + (57 + (57 + (57 + (57 + (57 + (57 + 57)))))))) from rfl]
  simp only [cut, crcFeed_append]
  rw [
    show crcFeed 0xFFFF#16 (List.replicate 57 0xFF) = 0xC0BD#16 by decide +kernel,
    show crcFeed 0xC0BD#16 (List.replicate 57 0xFF) = 0xC13D#16 by decide +kernel,
    show crcFeed 0xC13D#16 (List.replicate 57 0xFF) = 0x993A#16 by decide +kernel,
    show crcFeed 0x993A#16 (List.replicate 57 0xFF) = 0x315E#16 by decide +kernel,
    show crcFeed 0x315E#16 (List.replicate 57 0xFF) = 0xD68F#16 by decide +kernel,
    show crcFeed 0xD68F#16 (List.replicate 57 0xFF) = 0xB8EB#16 by decide +kernel,
    show crcFeed 0xB8EB#16 (List.replicate 57 0xFF) = 0xC969#16 by decide +kernel,
    show crcFeed 0xC969#16 (List.replicate 57 0xFF) = 0x0EAE#16 by decide +kernel,
    show crcFeed 0x0EAE#16 (List.replicate 57 0xFF) = 0x767F#16 by decide +kernel,
    show crcFeed 0x767F#16 (List.replicate 57 0xFF) = 0x6CBD#16 by decide +kernel]

/-- R85, R93: of blocks of 0xFF, a rotary axis takes each value clamped; a bounded one has equal travel limits, and takes its
built-in defaults whole. -/
theorem test_blocks_out_of_range :
    let q := loadAxis (List.replicate 570 0xFF) 0
    (q.gear, q.vmax, q.amax, q.homeSpeed, q.indexOffset, q.wrapLimit) = (4194304, 67108864, 1048576, 67108864, -1, 8) ∧
    loadAxis (List.replicate 570 0xFF) 1 = AxisParams.builtIn := by decide +kernel

theorem witness_DeviceResetSetsEveryBlock_checks :
    let record := List.replicate 570 (0xFF : Byte) ++ ([0x6C, 0xBD] : List Byte)
    record.length = 572 ∧ crcBytes (crcOf (record.take 570)) = record.drop 570 ∧
    ParamsConsistent 0 (loadAxis record 0) ∧
    ¬ ParamsConsistent 1 { AxisParams.builtIn with indexOffset := -1, travelMin := -1, travelMax := -1 } := by
  refine ⟨by decide +kernel, ?_, nofun, ?_⟩
  · rw [show (List.replicate 570 (0xFF : Byte) ++ ([0x6C, 0xBD] : List Byte)).take 570 = List.replicate 570 0xFF by decide +kernel,
      test_fresh_record_fails_its_check]
    decide +kernel
  · unfold ParamsConsistent
    decide

/-- The record of a part fresh from manufacture fails its check; a slot of each spoiled kind. -/
theorem witness_DeviceResetSetsEveryBlock_default :
    crcBytes (crcOf (base.store.record.take 570)) ≠ base.store.record.drop 570 ∧
    (∃ phase copy, (storeIn (.saving .write ParamSet.builtIn)).store.op = .saving phase copy) ∧
    SlotMap.wf (storeIn (.writingInSuspend 1300 venus 2 90)).store.slots = true ∧
    SlotAway (storeIn (.writingInSuspend 1300 venus 2 90)).store.op 95 ∧ ¬ SlotAway (.eraseSuspended 2 90) 96 :=
  ⟨by
      rw [show base.store.record.take 570 = List.replicate 570 0xFF by decide +kernel, test_fresh_record_fails_its_check]
      decide +kernel,
    ⟨_, _, rfl⟩, by decide, by show 95 / 32 = 2; decide, by show ¬ 96 / 32 = 2; decide⟩

theorem witness_FrameAndCommandAgree :
    Instr.wf (.coupleOff .d [2]) = true ∧ (Instr.coupleOff .d [2]).frame? = some (.d, 0x05, [2]) ∧
    Instr.wf (.coupleOn .d [1]) = true ∧ (Instr.coupleOn .d [1]).frame? = some (.d, 0x05, [1]) ∧
    Instr.wf (.nonRequestKind .d 0xFF []) = true ∧ (Instr.nonRequestKind .d 0xFF []).frame? = some (.d, 0xFF, []) := by
  decide

/-! #### The laws -/

theorem witness_ClockLawKept :
    ClockLaw (clockAt 501464 232 (-1000)) ∧
    step ((clockAt 501464 232 (-1000)).push .clockStep) = .next (after .clockStep (clockAt 501464 232 (-1000))) :=
  ⟨clock_law_of_free (by unfold ClockInRange; decide) (by decide) rfl, rfl⟩

/-- In HOLD, and in NORMAL. -/
theorem witness_HoldLawKept :
    HoldLaw (sampled 94) ∧ HoldLaw base ∧ step ((sampled 94).push (.resume .s [])) = .next (after (.resume .s []) (sampled 94)) := by
  refine ⟨⟨by decide, by decide, by decide, ?_⟩, ?_, rfl⟩
  · intro a
    have held : ∀ b : Axis, ((sampled 94).axis b).mode = .held := by decide
    rw [held a]
    trivial
  · intro a
    have parked : ∀ b : Axis, (base.axis b).mode = .parked := by decide
    show ModeInNormal (base.axis a).mode
    rw [parked a]
    trivial

theorem witness_GrantLawKept :
    GrantLaw (waiting (some .s) [.d, .c]) ∧
    step ((waiting (some .s) [.d, .c]).push (.grantSeize .c [])) =
      .next (after (.grantSeize .c []) (waiting (some .s) [.d, .c])) :=
  ⟨grant_law_waiting _ _ (by decide) (by decide) (by decide), rfl⟩

/-- A channel after reset is lawful, on either kind of axis. -/
theorem channel_reset_lawful (a : Axis) : ChannelLaw a AxisChannel.reset := by
  refine ⟨?_, by simp [AxisChannel.reset, DriveOff], fun _ => rfl, by decide, trivial, trivial, nofun, nofun, by decide,
    by decide, by decide, fun _ => ⟨rfl, rfl⟩⟩
  unfold ParamsLegal
  revert a
  decide

theorem witness_AxisLawKept :
    AxisLaw (mars (.recovering .track 0) 1 (some 990)) ∧
    step ((mars (.recovering .track 0) 1 (some 990)).push (.retryExpiry 11 false)) =
      .next (after (.retryExpiry 11 false) (mars (.recovering .track 0) 1 (some 990))) := by
  refine ⟨fun a => ?_, rfl⟩
  have others : ∀ b : Axis, b ≠ 11 → (mars (.recovering .track 0) 1 (some 990)).axis b = AxisChannel.reset := by decide
  rcases eq_or_ne a 11 with rfl | h
  · refine ⟨by unfold ParamsLegal; decide, ?_, fun _ => rfl, by decide, rfl, trivial, nofun, ?_, by decide, by decide,
      by decide, fun _ => by decide⟩
    · constructor
      · nofun
      · exact fun h => absurd trivial h
    · intro _ lo hi h
      rw [show travelRange 11 _ = none from rfl] at h
      cases h
  · rw [others a h]
    exact channel_reset_lawful a

/-- A write in flight beside a FILLED slot, and a patch table with a live entry. -/
theorem witness_StoreAndPatchLawKept :
    let s := (patched (.disabled 165 venus)).setStore { (storeIn (.writing 1300 venus)).store with slots := [(70, .filled venus)] }
    StoreLaw s ∧ PatchLaw s ∧ step (s.push (.writeCompletion .ok)) = .next (after (.writeCompletion .ok) s) := by
  refine ⟨⟨by decide, ?_, by decide +kernel, ⟨by decide, by decide, by decide⟩⟩, ⟨?_, ?_⟩, rfl⟩
  · intro n g h
    rcases eq_or_ne n 70 with rfl | ne
    · cases h
      decide
    · simp [State.setStore, SlotMap.read, ne.symm] at h
  · intro i n g h
    have all : ∀ j, (patched (.disabled 165 venus)).patches.get j ∈ [.unset, .disabled 165 venus, .enabled 165 venus] := by
      decide
    replace h : (patched (.disabled 165 venus)).patches.get i = .disabled n g ∨
        (patched (.disabled 165 venus)).patches.get i = .enabled n g := h
    have mem := all i
    rcases h with h | h <;> rw [h] at mem <;> simp at mem <;> rw [mem.2] <;> decide
  · intro i j n g h hi hj
    have all : ∀ k, k = 0 ∨ (patched (.disabled 165 venus)).patches.get k ∈ [.unset, .disabled 165 venus] := by decide
    replace hi : (patched (.disabled 165 venus)).patches.get i = .enabled n g := hi
    replace hj : (patched (.disabled 165 venus)).patches.get j = .enabled n h := hj
    rcases all i with rfl | mi
    · rcases all j with rfl | mj
      · rfl
      · rw [hj] at mj
        simp at mj
    · rw [hi] at mi
      simp at mi

theorem witness_AngleAndThermalLawKept :
    AngleLaw (base.setBall { base.ball with latitude := quarterTurn, longitude := turn - 1 }) ∧
    ThermalLaw (base.setThermal { warning := true, latest := some 91, overMark := false, tw := 85 }) := by
  refine ⟨⟨by decide, by decide, by decide, by decide, by decide⟩, by decide, by decide, by decide, nofun⟩

/-- Link D in the middle of a frame, with a guard running. -/
theorem witness_LinksLawKept :
    let s := base.setLink .d { LinkState.reset with receiver := .collecting [0x00, 0x4A, 0xF4], guard := .running .ms50 .hold 7 }
    LinksLaw s ∧ step (s.push (.characterReceived .d 0x81 false)) = .next (after (.characterReceived .d 0x81 false) s) := by
  refine ⟨fun l => ?_, rfl⟩
  cases l
  · exact ⟨by decide, by decide, nofun, fun _ => rfl, nofun⟩
  · exact ⟨by decide, by decide, nofun, fun _ => rfl, nofun⟩
  · refine ⟨by decide, by decide, nofun, fun _ => rfl, ?_⟩
    rintro got ⟨⟩
    exact ⟨by decide, by decide⟩

end Sys2Proof.Tests
end

section
/-! PROOFS. What holds of every step when it holds of every command: predicates kept through the taking of a request, its
checks, and the front of the queue. -/

namespace Sys2Proof.Proofs

open Machine Safety

/-- A meaning keeps a predicate of states: where it answers a next state, the predicate still holds. -/
def Keeps (P : State → Prop) (meaning : State → Result) : Prop := ∀ s t, P s → meaning s = .next t → P t

/-- A predicate that no field of the links bears on. -/
def IgnoresLinks (P : State → Prop) : Prop := ∀ s x, P s → P (s.setLinks x)

theorem keeps_next {P : State → Prop} {f : State → State} (kept : ∀ s, P s → P (f s)) : Keeps P fun s => .next (f s) := by
  rintro s t hs ⟨⟩
  exact kept s hs

/-- A request keeps what its handling keeps; the frame and the reply are the links' (R180). -/
theorem keeps_take {P : State → Prop} (links : IgnoresLinks P) {l : Link} {f : Frame} {handle : State → Handled}
    (handled : ∀ s, P s → P (handle s).state) : Keeps P (take l f handle) := by
  intro s t hs h
  rcases take_next h with rfl | ⟨_, rfl⟩
  · exact hs
  · exact links _ _ (handled _ (links _ _ hs))

theorem needGrant_keeps {P : State → Prop} {s : State} {l : Link} {h : Handled} (here : P s) (handled : P h.state) :
    P (needGrant s l h).state := by
  unfold needGrant
  split
  · exact handled
  · exact here

theorem needNormal_keeps {P : State → Prop} {s : State} {h : Handled} (here : P s) (handled : P h.state) :
    P (needNormal s h).state := by
  unfold needNormal
  split
  · exact here
  · exact handled

/-- A step keeps what every command and a passing millisecond keep, where the queue of commands does not bear on it. -/
theorem keeps_step {P : State → Prop} (queue : ∀ s rest, P s → P { s with pending := rest })
    (idle : ∀ s, P s → P (passMillisecond s)) (command : ∀ i, Keeps P (exec i)) : Keeps P step := by
  intro s t hs h
  unfold step at h
  split at h
  · cases h
    exact idle s hs
  · exact command _ _ t (queue s _ hs) h

end Sys2Proof.Proofs
end

section
/-! PROOFS. The clock law is kept by every step (R1): first by the shared operations, then by every command. The law reads
the clock, the watch entries and the hold state alone, so a command that leaves these three keeps it as it stands. -/

namespace Sys2Proof.Proofs

open Machine Safety

/-! ### The law in its three parts -/

/-- Every DEFINED watch entry is legal (R173). -/
def EntriesLegal (watches : Vector Watch 4) : Prop := ∀ (i : WatchNo) w, (watches.get i).definition = some w → WatchLegal w

/-- The entry Rt of a hold lies within RATE_MAX (R148). -/
def EntryRtInRange (h : HoldCtl) : Prop := ∀ snap p, h = .hold snap p → -rateMax ≤ snap.entryRt ∧ snap.entryRt ≤ rateMax

theorem clockLaw_iff (s : State) :
    ClockLaw s ↔ ClockInRange s.clock ∧ EntriesLegal s.watches ∧ EntryRtInRange s.holdCtl := Iff.rfl

theorem clockLaw_ignoresLinks : IgnoresLinks ClockLaw := fun _ _ h => h

theorem clockLaw_setClock {s : State} {c : Clock} (h : ClockLaw s) (range : ClockInRange c) : ClockLaw (s.setClock c) :=
  ⟨range, h.2⟩

theorem clockLaw_setWatches {s : State} {watches : Vector Watch 4} (h : ClockLaw s) (legal : EntriesLegal watches) :
    ClockLaw (s.setWatches watches) :=
  ⟨h.1, legal, h.2.2⟩

theorem clockLaw_setHold {s : State} {x : HoldCtl} (h : ClockLaw s) (entry : EntryRtInRange x) : ClockLaw (s.setHold x) :=
  ⟨h.1, h.2.1, entry⟩

theorem clockLaw_setAxis {s : State} (h : ClockLaw s) (a : Axis) (c : AxisChannel) : ClockLaw (s.setAxis a c) := h

theorem clockLaw_setThermal {s : State} (h : ClockLaw s) (x : Thermal) : ClockLaw (s.setThermal x) := h

theorem clockLaw_setStore {s : State} (h : ClockLaw s) (x : Store) : ClockLaw (s.setStore x) := h

theorem clockLaw_setLink {s : State} (h : ClockLaw s) (l : Link) (x : LinkState) : ClockLaw (s.setLink l x) := h

theorem clockLaw_send {s : State} (h : ClockLaw s) (e : Event) : ClockLaw (s.send e) := h

theorem entryRtInRange_normal (snap : Option Snapshot) : EntryRtInRange (.normal snap) := nofun

theorem entryRtInRange_hold {snap : Snapshot} (h : -rateMax ≤ snap.entryRt ∧ snap.entryRt ≤ rateMax) (p : Option HoldCause) :
    EntryRtInRange (.hold snap p) := by
  rintro _ _ ⟨⟩
  exact h

/-! ### The clock (R13, R14, R1) -/

theorem zero_in_rates : -rateMax ≤ 0 ∧ (0 : Int) ≤ rateMax := by decide

theorem clampSky_range (t : Int) : skyMin ≤ clampSky t ∧ clampSky t ≤ skyMax := clamp_range (by decide)

theorem clockInRange_stop {c : Clock} (h : ClockInRange c) : ClockInRange c.stop := ⟨h.1, zero_in_rates, zero_in_rates⟩

theorem clockInRange_pin {t : Int} (h : skyMin ≤ t ∧ t ≤ skyMax) : ClockInRange (Clock.pin t) :=
  ⟨h, zero_in_rates, zero_in_rates⟩

/-! ### Watch entries -/

/-- A change of every entry that turns legal definitions into legal ones, and makes none anew, keeps the table legal. -/
theorem entriesLegal_map {watches : Vector Watch 4} {f : Watch → Watch} (h : EntriesLegal watches)
    (legal : ∀ x w', (f x).definition = some w' → ∃ w, x.definition = some w ∧ (WatchLegal w → WatchLegal w')) :
    EntriesLegal (Table.map f watches) := by
  intro i w' hw
  rw [Table.get_map] at hw
  obtain ⟨w, hd, keeps⟩ := legal _ _ hw
  exact keeps (h i w hd)

theorem entriesLegal_mark {watches : Vector Watch 4} (h : EntriesLegal watches) (subject : WatchSubject) (ch : Change)
    (someFired : Bool) : EntriesLegal (Table.map (Watch.mark subject ch someFired) watches) := by
  refine entriesLegal_map h fun x w hw => ⟨w, ?_, id⟩
  unfold Watch.mark at hw
  split_ifs at hw <;> exact hw

theorem entriesLegal_disableLocal {watches : Vector Watch 4} (h : EntriesLegal watches) :
    EntriesLegal (Table.map Watch.disableLocal watches) := by
  refine entriesLegal_map h fun x w' hw => ?_
  unfold Watch.disableLocal at hw
  split at hw
  next w hd =>
    split_ifs at hw
    · cases hw
      exact ⟨w, hd, id⟩
    · exact ⟨w', hw, id⟩
  next => exact ⟨w', hw, id⟩

theorem clockLaw_setWatch {s : State} {n : WatchNo} {x : Watch} (h : ClockLaw s)
    (legal : ∀ w, x.definition = some w → WatchLegal w) : ClockLaw (s.setWatch n x) := by
  refine clockLaw_setWatches h fun i w hw => ?_
  rw [Table.get_set] at hw
  split at hw
  · exact legal w hw
  · exact h.2.1 i w hw

/-! ### Hold causes and the grant (R148, R152, R187) -/

theorem enterHold_keeps_clockLaw {s : State} (h : ClockLaw s) (cause : HoldCause) : ClockLaw (enterHold s cause) := by
  rw [clockLaw_iff, enterHold_clock, enterHold_watches, enterHold_holdCtl]
  exact ⟨clockInRange_stop h.1, h.2.1, entryRtInRange_hold h.1.2.2 _⟩

theorem handCause_keeps_clockLaw {s : State} (h : ClockLaw s) (cause : HoldCause) : ClockLaw (handCause s cause) := by
  rcases handCause_cases s cause with ⟨_, _, e⟩ | ⟨snap, held, e⟩ | ⟨_, _, _, e⟩ <;> rw [e]
  · exact enterHold_keeps_clockLaw h cause
  · exact clockLaw_setHold h (entryRtInRange_hold (h.2.2 snap _ held) _)
  · exact h

theorem grantChange_keeps_clockLaw {s : State} (h : ClockLaw s) (holder : Option Link) (queue : List Link)
    (reason : GrantReason) : ClockLaw (grantChange s holder queue reason) :=
  ⟨h.1, entriesLegal_disableLocal h.2.1, h.2.2⟩

theorem releaseGrant_keeps_clockLaw {s : State} (h : ClockLaw s) (reason : GrantReason) :
    ClockLaw (releaseGrant s reason) := by
  rcases releaseGrant_cases s reason with ⟨_, e⟩ | ⟨_, _, _, e⟩ <;> rw [e] <;> exact grantChange_keeps_clockLaw h _ _ _

/-! ### The watch unit (R171, R172) -/

/-- A PAUSE entry that fires on sky time has its reference within the range, so that its pin keeps T in range (R14, R173). -/
theorem pauses_in_sky {s : State} (legal : EntriesLegal s.watches) (ch : Change) :
    ∀ r ∈ (firedWith s .skyTime ch .pause).map (watchReference s), skyMin ≤ r ∧ r ≤ skyMax := by
  intro r hr
  obtain ⟨i, w, ⟨hd, _, hs, _⟩, _, rfl⟩ := (mem_pauses (fun _ => Iff.rfl) s .skyTime r).mp hr
  exact (legal i w hd).2.2.1 hs

theorem pauseClock_inRange {c : Clock} (h : ClockInRange c) {subject : WatchSubject} (ch : Change) {references : List Int}
    (range : subject = .skyTime → ∀ r ∈ references, skyMin ≤ r ∧ r ≤ skyMax) :
    ClockInRange (pauseClock c subject ch references) := by
  unfold pauseClock
  split
  · exact h
  · split
    next r rest _ _ _ _ =>
      apply clockInRange_pin
      split
      · exact range rfl _ (foldl_min_spec r rest).2
      · exact range rfl _ (foldl_max_spec r rest).2
    next => exact clockInRange_stop h

theorem observe_keeps_clockLaw {s : State} (h : ClockLaw s) (subject : WatchSubject) (ch : Change) :
    ClockLaw (observe s subject ch) := by
  obtain ⟨t, ht, outcome⟩ := observe_cases s subject ch
  have fired : ClockLaw t := by
    rw [ht, clockLaw_iff]
    simp only [State.setClock_clock, State.setClock_watches, State.setClock_holdCtl, foldl_sendWatch_watches,
      foldl_sendWatch_holdCtl, State.setWatches_watches, State.setWatches_holdCtl]
    refine ⟨pauseClock_inRange h.1 ch ?_, entriesLegal_mark h.2.1 _ _ _, h.2.2⟩
    rintro rfl
    exact pauses_in_sky h.2.1 ch
  rcases outcome with ⟨_, e⟩ | ⟨_, _, _, e⟩ <;> rw [e]
  · exact fired
  · exact handCause_keeps_clockLaw fired _

theorem observeAxis_keeps_clockLaw {s : State} (h : ClockLaw s) (a : Axis) (old new : Int) :
    ClockLaw (observeAxis s a old new) :=
  observe_keeps_clockLaw h _ _

/-! ### The clock step and the clock's requests (R3 to R11) -/

/-- The ramp brings R nearer to Rt and never past it (R3). -/
theorem ramp_between (r rt : Int) : min r rt ≤ ramp r rt ∧ ramp r rt ≤ max r rt := by
  unfold ramp sgn mag
  simp only
  split_ifs <;> omega

theorem clockAdvance_inRange {c : Clock} (h : ClockInRange c) : ClockInRange (clockAdvance c).1 := by
  obtain ⟨_, ⟨rlo, rhi⟩, ⟨tlo, thi⟩⟩ := h
  obtain ⟨lo, hi⟩ := ramp_between c.r c.rt
  unfold clockAdvance
  simp only
  split_ifs
  · exact clockInRange_pin (by decide)
  · exact clockInRange_pin (by decide)
  · refine ⟨?_, ?_, tlo, thi⟩ <;> simp only <;> omega

theorem sendSkyLimit_keeps_clockLaw {s : State} (h : ClockLaw s) (side : Option Side) : ClockLaw (sendSkyLimit s side) := by
  cases side <;> exact h

theorem execClockStep_keeps_clockLaw : Keeps ClockLaw execClockStep :=
  keeps_next fun _ h =>
    observe_keeps_clockLaw (sendSkyLimit_keeps_clockLaw (clockLaw_setClock h (clockAdvance_inRange h.1)) _) _ _

theorem execSetRate_keeps_clockLaw (l : Link) (p : List Byte) : Keeps ClockLaw (execSetRate l p) :=
  keeps_take clockLaw_ignoresLinks fun s h => by
    split
    · exact h
    · exact needGrant_keeps h (needNormal_keeps h (clockLaw_setClock h ⟨h.1.1, h.1.2.1, clamp_range (by decide)⟩))

theorem jumpTo_keeps_clockLaw {s : State} (h : ClockLaw s) (t : Int) : ClockLaw (jumpTo s t).state :=
  have moved : ClockLaw (s.setClock { s.clock with t := clampSky t }) := clockLaw_setClock h ⟨clampSky_range t, h.1.2⟩
  observe_keeps_clockLaw moved _ _

theorem execSetTime_keeps_clockLaw (l : Link) (p : List Byte) : Keeps ClockLaw (execSetTime l p) :=
  keeps_take clockLaw_ignoresLinks fun s h => by
    split
    · exact h
    · exact needGrant_keeps h (needNormal_keeps h (jumpTo_keeps_clockLaw h _))

theorem execNudge_keeps_clockLaw (l : Link) (p : List Byte) : Keeps ClockLaw (execNudge l p) :=
  keeps_take clockLaw_ignoresLinks fun s h => by
    split
    · exact h
    · exact needGrant_keeps h (needNormal_keeps h (jumpTo_keeps_clockLaw h _))

/-! ### Star ball geometry and the evaluator (R25 to R51) -/

theorem couple_keeps_clockLaw {s : State} (h : ClockLaw s) (on : Bool) : ClockLaw (couple s on) := by
  unfold couple
  split_ifs <;> exact h

theorem handleCouple_keeps_clockLaw {s : State} (h : ClockLaw s) (l : Link) (p : List Byte) :
    ClockLaw (handleCouple l p s).state := by
  unfold handleCouple
  split
  · exact h
  · exact needGrant_keeps h (couple_keeps_clockLaw h _)

theorem evaluateTrack_keeps_clockLaw {s : State} (h : ClockLaw s) (k : Track) : ClockLaw (evaluateTrack s k) := by
  unfold evaluateTrack sendSourceChange
  simp only
  split_ifs <;> exact h

theorem evaluatePhase_keeps_clockLaw {s : State} (h : ClockLaw s) : ClockLaw (evaluatePhase s) := by
  have evaluated : ClockLaw (evaluateTrack (evaluateTrack s 1) 0) :=
    evaluateTrack_keeps_clockLaw (evaluateTrack_keeps_clockLaw h 1) 0
  rcases evaluatePhase_cases s with e | ⟨_, e⟩ <;> rw [e] <;> exact evaluated

/-! ### The profile update (R95 to R105) -/

theorem roleTarget_keeps_clockLaw {s : State} (h : ClockLaw s) (a : Axis) : ClockLaw (roleTarget s a).1 := by
  unfold roleTarget
  split_ifs
  · exact h
  · exact h
  · exact h
  · cases axisTrack a with
    | none => exact evaluatePhase_keeps_clockLaw h
    | some k => exact evaluateTrack_keeps_clockLaw h k

theorem softClamp_keeps_clockLaw {s : State} (h : ClockLaw s) (a : Axis) (c : AxisChannel) :
    ClockLaw (softClamp s a c).1 := by
  unfold softClamp
  split <;> exact h

theorem lagTest_keeps_clockLaw {s : State} (h : ClockLaw s) (a : Axis) (c : AxisChannel) (e : Int) :
    ClockLaw (lagTest s a c e).1 := by
  unfold lagTest
  split_ifs <;> exact h

theorem homingEnd_keeps_clockLaw {s : State} (h : ClockLaw s) (a : Axis) (c : AxisChannel) (x : HomingRecord)
    (moved vmax : Int) : ClockLaw (homingEnd s a c x moved vmax).1 := by
  have ended : ClockLaw (settled s a c).1 := by
    unfold settled
    split <;> exact h
  unfold homingEnd
  simp only
  split
  · exact h
  · cases x.phase <;> simp only
    case seek => split <;> exact h
    case backoff => split <;> exact h
    case creep => exact h
    case settle =>
      split
      · exact ended
      · exact h

theorem updateStages_keeps_clockLaw {s : State} (h : ClockLaw s) {a : Axis} {y : State × AxisChannel}
    (hy : updateStages s a = some y) : ClockLaw y.1 := by
  unfold updateStages at hy
  split at hy <;> cases hy
  case h_1 => exact lagTest_keeps_clockLaw (softClamp_keeps_clockLaw (roleTarget_keeps_clockLaw h a) _ _) _ _ _
  case h_2 => exact softClamp_keeps_clockLaw h _ _
  case h_3 => exact softClamp_keeps_clockLaw h _ _
  case h_4 => exact softClamp_keeps_clockLaw h _ _
  case h_5 => exact softClamp_keeps_clockLaw h _ _
  case h_6 => exact homingEnd_keeps_clockLaw h _ _ _ _ _

theorem execProfileUpdate_keeps_clockLaw (a : Axis) : Keeps ClockLaw (execProfileUpdate a) := by
  intro s t h ht
  unfold execProfileUpdate at ht
  split at ht <;> cases ht
  next hy => exact observeAxis_keeps_clockLaw (clockLaw_setAxis (updateStages_keeps_clockLaw h hy) _ _) _ _ _
  next => exact observeAxis_keeps_clockLaw (clockLaw_setAxis h _ _) _ _ _

/-! ### Drive protection (R132 to R143) -/

theorem reportFault_keeps_clockLaw {s : State} (h : ClockLaw s) (a : Axis) (kind : HoldFaultKind) :
    ClockLaw (reportFault s a kind) :=
  handCause_keeps_clockLaw (clockLaw_send h _) _

theorem switchActive_keeps_clockLaw {s : State} (h : ClockLaw s) (a : Axis) (side : Side) :
    ClockLaw (switchActive s a side) := by
  unfold switchActive
  split
  · exact reportFault_keeps_clockLaw (clockLaw_setAxis h _ _) _ _
  · exact h

theorem manualTrip_keeps_clockLaw {s : State} (h : ClockLaw s) (a : Axis) : ClockLaw (manualTrip s a) :=
  reportFault_keeps_clockLaw (clockLaw_setAxis h _ _) _ _

theorem retryTrip_keeps_clockLaw {s : State} (h : ClockLaw s) (a : Axis) (prior : PriorMode) :
    ClockLaw (retryTrip s a prior) := by
  unfold retryTrip
  simp only
  split
  · exact h
  · exact manualTrip_keeps_clockLaw (clockLaw_setAxis h _ _) a

theorem tripped_keeps_clockLaw {s : State} (h : ClockLaw s) (a : Axis) : ClockLaw (tripped s a) := by
  unfold tripped
  split
  · exact h
  · exact retryTrip_keeps_clockLaw h a _
  · split
    · exact retryTrip_keeps_clockLaw (clockLaw_setAxis h _ _) a _
    · exact manualTrip_keeps_clockLaw (clockLaw_setAxis h _ _) a

theorem tripSeen_keeps_clockLaw {s : State} (h : ClockLaw s) (x : TripSeen) : ClockLaw (tripSeen s x) := by
  rcases tripSeen_cases s x with ⟨_, _, _, e⟩ | ⟨_, _, _, e⟩ | ⟨_, e⟩ <;> rw [e]
  · exact tripped_keeps_clockLaw (clockLaw_setAxis h _ _) _
  · exact h
  · exact h

theorem execRetryExpiry_keeps_clockLaw (a : Axis) (line : Bool) : Keeps ClockLaw (execRetryExpiry a line) := by
  intro s t h ht
  unfold execRetryExpiry at ht
  split at ht
  · simp only at ht
    split at ht <;> cases ht
    · exact retryTrip_keeps_clockLaw (clockLaw_setAxis h _ _) a _
    · exact h
  · cases ht
    exact h

theorem execTripWindowExpiry_keeps_clockLaw (a : Axis) : Keeps ClockLaw (execTripWindowExpiry a) := by
  intro s t h ht
  unfold execTripWindowExpiry at ht
  split at ht <;> cases ht <;> exact h

theorem execThermalSample_keeps_clockLaw (celsius : Int) : Keeps ClockLaw (execThermalSample celsius) := by
  intro s t h ht
  have warned : ∀ u old new, ClockLaw u → ClockLaw (sendWarning u old new celsius) := by
    intro u old new hu
    unfold sendWarning
    split <;> exact hu
  unfold execThermalSample at ht
  simp only at ht
  split at ht <;> cases ht
  · exact handCause_keeps_clockLaw (clockLaw_send (warned _ _ _ (clockLaw_setThermal h _)) _) _
  · exact warned _ _ _ h

theorem execClearFault_keeps_clockLaw (l : Link) (p : List Byte) (lines : Lines) :
    Keeps ClockLaw (execClearFault l p lines) :=
  keeps_take clockLaw_ignoresLinks fun s h => by
    split
    · exact h
    · refine needGrant_keeps h ?_
      split_ifs <;> exact h

theorem execSetThermalLimit_keeps_clockLaw (l : Link) (p : List Byte) : Keeps ClockLaw (execSetThermalLimit l p) :=
  keeps_take clockLaw_ignoresLinks fun s h => by
    split
    · exact h
    · exact needGrant_keeps h h

/-! ### Hold and resume (R153 to R160) -/

theorem execHold_keeps_clockLaw (l : Link) (p : List Byte) : Keeps ClockLaw (execHold l p) :=
  keeps_take clockLaw_ignoresLinks fun s h => by
    split
    · exact h
    · show ClockLaw (if s.inHold then s else enterHold s (.request l))
      split
      · exact h
      · exact enterHold_keeps_clockLaw h _

theorem resumeClock_inRange {c : Clock} (h : ClockInRange c) {snap : Snapshot}
    (entry : -rateMax ≤ snap.entryRt ∧ snap.entryRt ≤ rateMax) : ClockInRange (resumeClock c snap) := by
  unfold resumeClock ClockInRange
  refine ⟨?_, h.2.1, ?_⟩
  · simp only
    split
    · exact h.1
    · exact clampSky_range _
  · simp only
    split
    · exact entry
    · exact zero_in_rates

theorem resumeShow_keeps_clockLaw {s : State} (h : ClockLaw s) {snap : Snapshot}
    (entry : -rateMax ≤ snap.entryRt ∧ snap.entryRt ≤ rateMax) : ClockLaw (resumeShow s snap) := by
  have resumed : ClockLaw ((((s.setClock (resumeClock s.clock snap)).setAxes
      (Table.build fun a => restoreAxis a (snap.saved.get a) (s.axis a))).setHold (.normal (some snap))).send
      (.resumed (resumeClock s.clock snap).t (resumeClock s.clock snap).rt)) :=
    ⟨resumeClock_inRange h.1 entry, h.2.1, entryRtInRange_normal _⟩
  unfold resumeShow
  simp only
  split
  · exact resumed
  · exact observe_keeps_clockLaw resumed _ _

theorem execResume_keeps_clockLaw (l : Link) (p : List Byte) : Keeps ClockLaw (execResume l p) :=
  keeps_take clockLaw_ignoresLinks fun s h => by
    split
    · exact h
    split
    · exact h
    split
    · exact h
    next snap pendingCause held =>
      have entry := h.2.2 snap pendingCause held
      split
      · exact h
      split
      · refine clockLaw_send (clockLaw_setHold h (entryRtInRange_hold ?_ _)) _
        exact entry
      · exact resumeShow_keeps_clockLaw h entry

theorem execSnapshotRead_keeps_clockLaw (l : Link) (p : List Byte) : Keeps ClockLaw (execSnapshotRead l p) :=
  keeps_take clockLaw_ignoresLinks fun s h => by split <;> exact h

theorem execSnapshotEdit_keeps_clockLaw (l : Link) (p : List Byte) : Keeps ClockLaw (execSnapshotEdit l p) :=
  keeps_take clockLaw_ignoresLinks fun s h => by
    split
    · exact h
    split
    · exact h
    split
    · exact h
    next snap pendingCause held =>
      refine clockLaw_setHold h (entryRtInRange_hold ?_ _)
      exact h.2.2 snap pendingCause held

/-! ### The watch unit's requests (R173 to R175) -/

/-- WATCH SET refuses SKY TIME with INSIDE and PAUSE (R173). -/
theorem readWatchSet_legal {p : List Byte} {x : WatchRequest} (h : readWatchSet p = some x) :
    ¬ (x.subject = .skyTime ∧ x.condition = .inside ∧ x.action = .pause) := by
  unfold readWatchSet ofLength at h
  split at h
  · split at h
    · split at h
      · cases h
      next legal =>
        cases h
        exact legal
    · cases h
  · cases h

theorem takeReference_sky (x : Int) : skyMin ≤ takeReference .skyTime x ∧ takeReference .skyTime x ≤ skyMax :=
  clampSky_range x

theorem takeReference_rotary {a : Axis} (rotary : bounded a = false) (x : Int) :
    0 ≤ takeReference (.axis a) x ∧ takeReference (.axis a) x < turn := by
  simp only [takeReference, rotary]
  exact wrap_range x

/-- The entry that WATCH SET defines is legal (R173). -/
theorem watchSet_legal {p : List Byte} {x : WatchRequest} (h : readWatchSet p = some x) (l : Link) :
    WatchLegal
      { owner := l, scope := x.scope, enabled := false, subject := x.subject, condition := x.condition
        reference := takeReference x.subject x.reference, width := takeWidth x.width, action := x.action } := by
  refine ⟨clamp_range (by decide), readWatchSet_legal h, ?_, ?_⟩
  · intro hs
    simp only at hs
    rw [hs]
    exact takeReference_sky _
  · intro a hs rotary
    simp only at hs
    rw [hs]
    exact takeReference_rotary rotary _

theorem execWatchSet_keeps_clockLaw (l : Link) (p : List Byte) : Keeps ClockLaw (execWatchSet l p) :=
  keeps_take clockLaw_ignoresLinks fun s h => by
    split
    · exact h
    next x hx =>
      split_ifs
      · exact h
      · exact h
      · exact clockLaw_setWatch h (by rintro _ ⟨⟩; exact watchSet_legal hx l)

theorem execWatchEnable_keeps_clockLaw (l : Link) (p : List Byte) : Keeps ClockLaw (execWatchEnable l p) :=
  keeps_take clockLaw_ignoresLinks fun s h => by
    split
    · exact h
    simp only
    split
    · exact h
    split
    · exact h
    next n _ _ _ w hw =>
      split
      · exact h
      · exact clockLaw_setWatch h (by rintro _ ⟨⟩; exact h.2.1 n w hw)

theorem execWatchDisable_keeps_clockLaw (l : Link) (p : List Byte) : Keeps ClockLaw (execWatchDisable l p) :=
  keeps_take clockLaw_ignoresLinks fun s h => by
    split
    · exact h
    simp only
    split
    · exact h
    split
    · exact h
    next n _ _ _ w hw => exact clockLaw_setWatch h (by rintro _ ⟨⟩; exact h.2.1 n w hw)

theorem execWatchClear_keeps_clockLaw (l : Link) (p : List Byte) : Keeps ClockLaw (execWatchClear l p) :=
  keeps_take clockLaw_ignoresLinks fun s h => by
    split
    · exact h
    simp only
    split
    · exact h
    split
    · exact h
    · exact clockLaw_setWatch h nofun

theorem execWatchStatus_keeps_clockLaw (l : Link) (p : List Byte) : Keeps ClockLaw (execWatchStatus l p) :=
  keeps_take clockLaw_ignoresLinks fun s h => by split <;> exact h

theorem execWatchAcknowledge_keeps_clockLaw (l : Link) (p : List Byte) : Keeps ClockLaw (execWatchAcknowledge l p) :=
  keeps_take clockLaw_ignoresLinks fun s h => by
    split
    · exact h
    · refine clockLaw_setWatches h fun i w hw => ?_
      rw [Table.get_build] at hw
      exact h.2.1 i w hw

/-! ### Links, guards and the grant (R178 to R197) -/

theorem guardExpire_keeps_clockLaw {s : State} (h : ClockLaw s) (l : Link) (action : GuardAction) :
    ClockLaw (guardExpire s l action) := by
  have released : ∀ c : Bool, ClockLaw (if c then releaseGrant (s.send (.guardExpired l action)) .guard
      else s.send (.guardExpired l action)) := by
    rintro (_ | _)
    · exact h
    · exact releaseGrant_keeps_clockLaw (clockLaw_send h _) _
  have target : ∀ (c : Bool) u, ClockLaw u → ClockLaw (if c then u.setClock u.clock.releaseTarget else u) := by
    rintro (_ | _) u hu
    · exact hu
    · exact clockLaw_setClock hu ⟨hu.1.1, hu.1.2.1, zero_in_rates⟩
  have caused : ∀ u, ClockLaw u → ClockLaw (if action = .hold then handCause u (.guard l) else u) := by
    intro u hu
    split
    · exact handCause_keeps_clockLaw hu _
    · exact hu
  exact caused _ (target _ _ (released _))

theorem execGuardExpiry_keeps_clockLaw (l : Link) : Keeps ClockLaw (execGuardExpiry l) := by
  intro s t h ht
  unfold execGuardExpiry at ht
  split at ht <;> cases ht
  · exact guardExpire_keeps_clockLaw (clockLaw_setLink h _ _) _ _
  · exact h

theorem execGrantRequest_keeps_clockLaw (l : Link) (p : List Byte) : Keeps ClockLaw (execGrantRequest l p) :=
  keeps_take clockLaw_ignoresLinks fun s h => by
    split
    · exact h
    split
    · exact grantChange_keeps_clockLaw h _ _ _
    · split_ifs <;> exact h

theorem execGrantRelease_keeps_clockLaw (l : Link) (p : List Byte) : Keeps ClockLaw (execGrantRelease l p) :=
  keeps_take clockLaw_ignoresLinks fun s h => by
    split
    · exact h
    split
    · exact releaseGrant_keeps_clockLaw h _
    · exact h

theorem execGrantSeize_keeps_clockLaw (l : Link) (p : List Byte) : Keeps ClockLaw (execGrantSeize l p) :=
  keeps_take clockLaw_ignoresLinks fun s h => by
    split
    · exact h
    split_ifs
    · exact h
    · exact h
    · exact grantChange_keeps_clockLaw h _ _ _

theorem execLinkReset_keeps_clockLaw (l : Link) (p : List Byte) : Keeps ClockLaw (execLinkReset l p) :=
  keeps_take clockLaw_ignoresLinks fun s h => by
    split
    · exact h
    · have left : ClockLaw (leaveQueue (s.setLink l (s.link l).resetRequest) l) := h
      simp only [answer]
      split
      · exact releaseGrant_keeps_clockLaw left _
      · exact left

theorem execGuardArm_keeps_clockLaw (l : Link) (p : List Byte) : Keeps ClockLaw (execGuardArm l p) :=
  keeps_take clockLaw_ignoresLinks fun s h => by
    split
    · exact h
    · split <;> exact h

theorem execReportInterval_keeps_clockLaw (l : Link) (p : List Byte) : Keeps ClockLaw (execReportInterval l p) :=
  keeps_take clockLaw_ignoresLinks fun s h => by split <;> exact h

theorem execReadStatus_keeps_clockLaw (l : Link) (p : List Byte) : Keeps ClockLaw (execReadStatus l p) :=
  keeps_take clockLaw_ignoresLinks fun s h => by split <;> exact h

theorem execNonRequestKind_keeps_clockLaw (l : Link) (k : Byte) (p : List Byte) :
    Keeps ClockLaw (execNonRequestKind l k p) := by
  intro s t h ht
  unfold execNonRequestKind at ht
  split at ht
  · cases ht
    exact h
  · exact keeps_take clockLaw_ignoresLinks (fun _ hu => hu) s t h ht

theorem execFrameArrival_keeps_clockLaw (l : Link) (k : Byte) (p : List Byte) : Keeps ClockLaw (execFrameArrival l k p) := by
  intro s t h ht
  unfold execFrameArrival at ht
  split at ht <;> cases ht <;> exact h

theorem execReportEvent_keeps_clockLaw (l : Link) : Keeps ClockLaw (execReportEvent l) := by
  intro s t h ht
  unfold execReportEvent at ht
  split at ht <;> cases ht <;> exact h

/-! ### Device reset (R2, R198) -/

theorem powerOn_clockLaw (s : State) : ClockLaw (powerOn s) := by
  refine ⟨clockInRange_pin (t := 0) (by decide), ?_, nofun⟩
  intro i w hw
  change ((Vector.replicate 4 ({ definition := none, hit := false, met := false } : Watch)).get i).definition = some w at hw
  rw [Table.get_replicate] at hw
  cases hw

theorem takeTripLines_keeps_clockLaw {s : State} (h : ClockLaw s) (trips : List Axis) : ClockLaw (takeTripLines trips s) := by
  unfold takeTripLines
  induction trips generalizing s with
  | nil => exact h
  | cons a rest ih => exact ih (tripSeen_keeps_clockLaw h _)

theorem takeSwitches_keeps_clockLaw {s : State} (h : ClockLaw s) (switches : List (Axis × Side)) :
    ClockLaw (takeSwitches switches s) := by
  unfold takeSwitches
  induction switches generalizing s with
  | nil => exact h
  | cons x rest ih => exact ih (switchActive_keeps_clockLaw h _ _)

theorem execDeviceReset_keeps_clockLaw (trips : List Axis) (switches : List (Axis × Side)) :
    Keeps ClockLaw (execDeviceReset trips switches) :=
  keeps_next fun s _ => takeSwitches_keeps_clockLaw (takeTripLines_keeps_clockLaw (powerOn_clockLaw s) trips) switches

/-! ### The other requests: patches, the store, axes (R51, R59 to R86, R107 to R119) -/

theorem execSetSite_keeps_clockLaw (l : Link) (p : List Byte) : Keeps ClockLaw (execSetSite l p) :=
  keeps_take clockLaw_ignoresLinks fun s h => by
    split
    · exact h
    · exact needGrant_keeps h h

theorem execCoupleOff_keeps_clockLaw (l : Link) (p : List Byte) : Keeps ClockLaw (execCoupleOff l p) := by
  intro s t h ht
  unfold execCoupleOff at ht
  split at ht
  · cases ht
    exact h
  · exact keeps_take clockLaw_ignoresLinks (fun _ hu => handleCouple_keeps_clockLaw hu l p) s t h ht

theorem execCoupleOn_keeps_clockLaw (l : Link) (p : List Byte) : Keeps ClockLaw (execCoupleOn l p) := by
  intro s t h ht
  unfold execCoupleOn at ht
  split at ht
  · cases ht
    exact h
  · exact keeps_take clockLaw_ignoresLinks (fun _ hu => handleCouple_keeps_clockLaw hu l p) s t h ht

theorem execReadTrack_keeps_clockLaw (l : Link) (p : List Byte) : Keeps ClockLaw (execReadTrack l p) :=
  keeps_take clockLaw_ignoresLinks fun s h => by split <;> exact h

theorem execPatchSet_keeps_clockLaw (l : Link) (p : List Byte) : Keeps ClockLaw (execPatchSet l p) :=
  keeps_take clockLaw_ignoresLinks fun s h => by
    split
    · exact h
    · refine needGrant_keeps h ?_
      split <;> exact h

theorem execPatchEnable_keeps_clockLaw (l : Link) (p : List Byte) : Keeps ClockLaw (execPatchEnable l p) :=
  keeps_take clockLaw_ignoresLinks fun s h => by
    split
    · exact h
    refine needGrant_keeps h ?_
    split
    · exact h
    · exact h
    · split <;> exact h

theorem execPatchDisable_keeps_clockLaw (l : Link) (p : List Byte) : Keeps ClockLaw (execPatchDisable l p) :=
  keeps_take clockLaw_ignoresLinks fun s h => by
    split
    · exact h
    · refine needGrant_keeps h ?_
      split <;> exact h

theorem execPatchRead_keeps_clockLaw (l : Link) (p : List Byte) : Keeps ClockLaw (execPatchRead l p) :=
  keeps_take clockLaw_ignoresLinks fun s h => by split <;> exact h

theorem execSegmentWrite_keeps_clockLaw (l : Link) (p : List Byte) : Keeps ClockLaw (execSegmentWrite l p) :=
  keeps_take clockLaw_ignoresLinks fun s h => by
    split
    · exact h
    split
    · exact h
    · split_ifs <;> exact h

theorem execSectorErase_keeps_clockLaw (l : Link) (p : List Byte) : Keeps ClockLaw (execSectorErase l p) :=
  keeps_take clockLaw_ignoresLinks fun s h => by
    split
    · exact h
    split
    · exact h
    · split_ifs <;> exact h

theorem execEraseSuspend_keeps_clockLaw (l : Link) (p : List Byte) : Keeps ClockLaw (execEraseSuspend l p) :=
  keeps_take clockLaw_ignoresLinks fun s h => by
    split
    · exact h
    · split <;> exact h

theorem execEraseResume_keeps_clockLaw (l : Link) (p : List Byte) : Keeps ClockLaw (execEraseResume l p) :=
  keeps_take clockLaw_ignoresLinks fun s h => by
    split
    · exact h
    · split <;> exact h

theorem execSectorCheck_keeps_clockLaw (l : Link) (p : List Byte) : Keeps ClockLaw (execSectorCheck l p) :=
  keeps_take clockLaw_ignoresLinks fun s h => by
    split
    · exact h
    · split <;> exact h

theorem execSaveParameters_keeps_clockLaw (l : Link) (p : List Byte) : Keeps ClockLaw (execSaveParameters l p) :=
  keeps_take clockLaw_ignoresLinks fun s h => by
    split
    · exact h
    · refine needGrant_keeps h ?_
      split <;> exact h

theorem execReadSegment_keeps_clockLaw (l : Link) (p : List Byte) : Keeps ClockLaw (execReadSegment l p) :=
  keeps_take clockLaw_ignoresLinks fun s h => by
    split
    · exact h
    · split <;> exact h

theorem execProtect_keeps_clockLaw (l : Link) (p : List Byte) : Keeps ClockLaw (execProtect l p) :=
  keeps_take clockLaw_ignoresLinks fun s h => by
    split
    · exact h
    · split <;> exact h

theorem execTrack_keeps_clockLaw (l : Link) (p : List Byte) : Keeps ClockLaw (execTrack l p) :=
  keeps_take clockLaw_ignoresLinks fun s h => by
    split
    · exact h
    · refine needGrant_keeps h (needNormal_keeps h ?_)
      split <;> exact h

theorem execMove_keeps_clockLaw (l : Link) (p : List Byte) : Keeps ClockLaw (execMove l p) :=
  keeps_take clockLaw_ignoresLinks fun s h => by
    split
    · exact h
    · refine needGrant_keeps h (needNormal_keeps h ?_)
      split <;> exact h

theorem execPark_keeps_clockLaw (l : Link) (p : List Byte) : Keeps ClockLaw (execPark l p) :=
  keeps_take clockLaw_ignoresLinks fun s h => by
    split
    · exact h
    · exact needGrant_keeps h (needNormal_keeps h h)

theorem execSetAxisParam_keeps_clockLaw (l : Link) (p : List Byte) : Keeps ClockLaw (execSetAxisParam l p) :=
  keeps_take clockLaw_ignoresLinks fun s h => by
    split
    · exact h
    · refine needGrant_keeps h (needNormal_keeps h ?_)
      simp only
      split_ifs <;> exact h

theorem execReadAxis_keeps_clockLaw (l : Link) (p : List Byte) : Keeps ClockLaw (execReadAxis l p) :=
  keeps_take clockLaw_ignoresLinks fun s h => by split <;> exact h

theorem execHome_keeps_clockLaw (l : Link) (p : List Byte) : Keeps ClockLaw (execHome l p) :=
  keeps_take clockLaw_ignoresLinks fun s h => by
    split
    · exact h
    · refine needGrant_keeps h (needNormal_keeps h ?_)
      split <;> exact h

/-! ### The ends of the store's works (R74 to R84) -/

theorem execWriteCompletion_keeps_clockLaw (result : CellResult) : Keeps ClockLaw (execWriteCompletion result) := by
  intro s t h ht
  unfold execWriteCompletion at ht
  split at ht <;> cases ht <;> exact h

theorem execEraseCompletion_keeps_clockLaw (result : CellResult) : Keeps ClockLaw (execEraseCompletion result) := by
  intro s t h ht
  unfold execEraseCompletion at ht
  split at ht <;> cases ht
  · exact clockLaw_send (clockLaw_setStore h _) _
  · exact h

theorem execCheckSectorCovered_keeps_clockLaw : Keeps ClockLaw execCheckSectorCovered := by
  intro s t h ht
  unfold execCheckSectorCovered at ht
  split at ht
  · simp only at ht
    split at ht <;> cases ht <;> exact h
  · cases ht
    exact h

theorem execSaveErasePhaseEnd_keeps_clockLaw (result : CellResult) : Keeps ClockLaw (execSaveErasePhaseEnd result) := by
  intro s t h ht
  unfold execSaveErasePhaseEnd at ht
  split at ht
  · split at ht <;> cases ht <;> exact h
  · cases ht
    exact h

theorem execSaveWritePhaseEnd_keeps_clockLaw (result : CellResult) : Keeps ClockLaw (execSaveWritePhaseEnd result) := by
  intro s t h ht
  unfold execSaveWritePhaseEnd at ht
  split at ht
  · split at ht <;> cases ht <;> exact h
  · cases ht
    exact h

/-! ### Every command -/

theorem exec_keeps_clockLaw (i : Instr) : Keeps ClockLaw (exec i) := by
  cases i with
  | deviceReset trips switches => exact execDeviceReset_keeps_clockLaw trips switches
  | clockStep => exact execClockStep_keeps_clockLaw
  | profileUpdate a => exact execProfileUpdate_keeps_clockLaw a
  | indexEdge a => exact keeps_next fun _ h => clockLaw_setAxis h _ _
  | qualifiedTrip x => exact keeps_next fun _ h => tripSeen_keeps_clockLaw h x
  | endSwitch a side => exact keeps_next fun _ h => switchActive_keeps_clockLaw h a side
  | retryExpiry a line => exact execRetryExpiry_keeps_clockLaw a line
  | tripWindowExpiry a => exact execTripWindowExpiry_keeps_clockLaw a
  | thermalSample celsius => exact execThermalSample_keeps_clockLaw celsius
  | writeCompletion result => exact execWriteCompletion_keeps_clockLaw result
  | eraseCompletion result => exact execEraseCompletion_keeps_clockLaw result
  | checkSectorCovered => exact execCheckSectorCovered_keeps_clockLaw
  | saveErasePhaseEnd result => exact execSaveErasePhaseEnd_keeps_clockLaw result
  | saveWritePhaseEnd result => exact execSaveWritePhaseEnd_keeps_clockLaw result
  | frameArrival l k p => exact execFrameArrival_keeps_clockLaw l k p
  | transmitStart l => exact keeps_next fun _ h => clockLaw_setLink h l _
  | reportEvent l => exact execReportEvent_keeps_clockLaw l
  | guardExpiry l => exact execGuardExpiry_keeps_clockLaw l
  | nonRequestKind l k p => exact execNonRequestKind_keeps_clockLaw l k p
  | setRate l p => exact execSetRate_keeps_clockLaw l p
  | setTime l p => exact execSetTime_keeps_clockLaw l p
  | nudge l p => exact execNudge_keeps_clockLaw l p
  | setSite l p => exact execSetSite_keeps_clockLaw l p
  | coupleOff l p => exact execCoupleOff_keeps_clockLaw l p
  | coupleOn l p => exact execCoupleOn_keeps_clockLaw l p
  | readTrack l p => exact execReadTrack_keeps_clockLaw l p
  | patchSet l p => exact execPatchSet_keeps_clockLaw l p
  | patchEnable l p => exact execPatchEnable_keeps_clockLaw l p
  | patchDisable l p => exact execPatchDisable_keeps_clockLaw l p
  | patchRead l p => exact execPatchRead_keeps_clockLaw l p
  | segmentWrite l p => exact execSegmentWrite_keeps_clockLaw l p
  | sectorErase l p => exact execSectorErase_keeps_clockLaw l p
  | eraseSuspend l p => exact execEraseSuspend_keeps_clockLaw l p
  | eraseResume l p => exact execEraseResume_keeps_clockLaw l p
  | sectorCheck l p => exact execSectorCheck_keeps_clockLaw l p
  | saveParameters l p => exact execSaveParameters_keeps_clockLaw l p
  | readSegment l p => exact execReadSegment_keeps_clockLaw l p
  | protect l p => exact execProtect_keeps_clockLaw l p
  | track l p => exact execTrack_keeps_clockLaw l p
  | move l p => exact execMove_keeps_clockLaw l p
  | park l p => exact execPark_keeps_clockLaw l p
  | setAxisParam l p => exact execSetAxisParam_keeps_clockLaw l p
  | readAxis l p => exact execReadAxis_keeps_clockLaw l p
  | home l p => exact execHome_keeps_clockLaw l p
  | clearFault l p lines => exact execClearFault_keeps_clockLaw l p lines
  | setThermalLimit l p => exact execSetThermalLimit_keeps_clockLaw l p
  | hold l p => exact execHold_keeps_clockLaw l p
  | resume l p => exact execResume_keeps_clockLaw l p
  | snapshotRead l p => exact execSnapshotRead_keeps_clockLaw l p
  | snapshotEdit l p => exact execSnapshotEdit_keeps_clockLaw l p
  | watchSet l p => exact execWatchSet_keeps_clockLaw l p
  | watchEnable l p => exact execWatchEnable_keeps_clockLaw l p
  | watchDisable l p => exact execWatchDisable_keeps_clockLaw l p
  | watchClear l p => exact execWatchClear_keeps_clockLaw l p
  | watchStatus l p => exact execWatchStatus_keeps_clockLaw l p
  | watchAcknowledge l p => exact execWatchAcknowledge_keeps_clockLaw l p
  | grantRequest l p => exact execGrantRequest_keeps_clockLaw l p
  | grantRelease l p => exact execGrantRelease_keeps_clockLaw l p
  | grantSeize l p => exact execGrantSeize_keeps_clockLaw l p
  | guardArm l p => exact execGuardArm_keeps_clockLaw l p
  | reportInterval l p => exact execReportInterval_keeps_clockLaw l p
  | readStatus l p => exact execReadStatus_keeps_clockLaw l p
  | linkReset l p => exact execLinkReset_keeps_clockLaw l p
  | characterReceived l char fault => exact keeps_next fun _ h => clockLaw_setLink h l _

/-- Settles O54: every command keeps the clock law, and so does a passing millisecond, which leaves what it reads. -/
theorem clockLawKept : Obligations.ClockLawKept := by
  unfold Obligations.ClockLawKept
  intro s t h ht
  exact keeps_step (fun _ _ hu => hu) (fun _ hu => hu) exec_keeps_clockLaw s t h ht

end Sys2Proof.Proofs
end

section
/-! PROOFS. The clock step and the ramp in the statements' terms (R3 to R6), and what they make of the watch entries on sky
time (R14, R165 to R172). -/

namespace Sys2Proof.Proofs

open Machine Safety

/-! ### The ramp (R3) -/

theorem ramp_eq (r rt : Int) : ramp r rt = r + (rt - r).sign * min |rt - r| (max 256 (|r| / 64)) := by
  unfold ramp
  simp only [sgn_eq_sign, mag_eq]

/-- A ramp stage leaves at most 256 less to go than before, until nothing is left (R3). -/
theorem ramp_nears {r rt : Int} {n : Nat} (h : |rt - r| ≤ 256 * ((n : Int) + 1)) : |rt - ramp r rt| ≤ 256 * n := by
  rw [← mag_eq] at h ⊢
  unfold ramp
  generalize mag r / 64 = fast
  unfold sgn mag at *
  simp only
  split_ifs at * <;> omega

theorem ramp_iterate {rt : Int} (n : Nat) {r : Int} (h : |rt - r| ≤ 256 * n) : (fun x => ramp x rt)^[n] r = rt := by
  induction n generalizing r with
  | zero =>
    have : |rt - r| = 0 := le_antisymm (by simpa using h) (abs_nonneg _)
    simp only [Function.iterate_zero, id_eq]
    linarith [abs_eq_zero.mp this]
  | succ n ih =>
    rw [Function.iterate_succ_apply]
    exact ih (ramp_nears (by simpa using h))

/-- Settles O8, by induction on the number of ramp stages; a single stage stays between R and Rt. -/
theorem rampLandsOnTarget : Obligations.RampLandsOnTarget := by
  refine ⟨fun r rt n h => ramp_iterate n h, fun r rt h => ?_, fun r rt h => ?_⟩
  · have between := ramp_between r rt
    rwa [min_eq_left h, max_eq_right h] at between
  · have between := ramp_between r rt
    rwa [min_eq_right h, max_eq_left h] at between

/-! ### The clock step before the watch unit sees it (R3 to R5) -/

theorem sendSkyLimit_clockAdvance (s : State) :
    sendSkyLimit (s.setClock (clockAdvance s.clock).1) (clockAdvance s.clock).2 = stepped s := by
  unfold clockAdvance stepped
  simp only [ramp_eq]
  split_ifs <;> rfl

theorem clockAdvance_t (s : State) : (clockAdvance s.clock).1.t = (stepped s).clock.t := by
  rw [← sendSkyLimit_clockAdvance]
  cases (clockAdvance s.clock).2 <;> rfl

/-- A clock step is the stepped state and then the watch unit on the change of T (R3 to R6). -/
theorem exec_clockStep (s : State) :
    exec .clockStep s = .next (observe (stepped s) .skyTime (.step s.clock.t (stepped s).clock.t)) := by
  show execClockStep s = _
  unfold execClockStep
  simp only
  rw [sendSkyLimit_clockAdvance, clockAdvance_t]

@[simp] theorem stepped_watches (s : State) : (stepped s).watches = s.watches := by
  unfold stepped
  simp only
  split_ifs <;> rfl

theorem exec_clockStep_unwatched {s : State} (h : Unwatched s .skyTime) : exec .clockStep s = .next (stepped s) := by
  have quiet : Unwatched (stepped s) .skyTime := by
    unfold Unwatched
    rwa [stepped_watches]
  rw [exec_clockStep, observe_unwatched _ quiet]

/-- Settles O7: without an entry on sky time the clock step is its three outcomes. -/
theorem clockStepRampsAndAdvances : Obligations.ClockStepRampsAndAdvances := by
  intro s unwatched d r t1
  rw [exec_clockStep_unwatched unwatched]
  have outcome : stepped s =
      if skyMax < t1 then (s.setClock { t := skyMax, r := 0, rt := 0 }).send (.skyLimit .high)
      else if t1 < skyMin then (s.setClock { t := skyMin, r := 0, rt := 0 }).send (.skyLimit .low)
      else s.setClock { t := t1, r := r, rt := s.clock.rt } := rfl
  have limits : skyMin < skyMax := by decide
  rw [outcome]
  refine ⟨fun above below => ?_, fun high => ?_, fun low => ?_⟩
  · rw [if_neg (not_lt.mpr below), if_neg (not_lt.mpr above)]
  · rw [if_pos high]
  · rw [if_neg (by omega), if_pos low]

/-! ### The clock step with entries on sky time (R14, R171) -/

/-- Settles O42: the watch unit's outcome on the step, with the clock as `pauseClock` leaves it in the two cases. -/
theorem clockStepFiresWatches : Obligations.ClockStepFiresWatches := by
  intro s _ x y meets paused
  have met : ∀ w, conditionMet w (.step x y) = true ↔ meets w := fun w => conditionMet_step w x y
  have outcome := observe_outcome met (stepped s) .skyTime
  refine ⟨_, exec_clockStep s, fun none => ?_, fun r pauses first => ?_⟩
  · rwa [pauseClock_none met none] at outcome
  · rwa [pauseClock_step met pauses first] at outcome

end Sys2Proof.Proofs
end

section
/-! PROOFS. The requests that set the clock or move it by a jump, with and without INSIDE entries on sky time (R7 to R11,
R156 to R158, R165). -/

namespace Sys2Proof.Proofs

open Machine Safety

/-! ### A request taken -/

/-- A request that its link can take: the frame leaves, the handling's state gets the reply (R180). -/
theorem take_replied {s : State} {l : Link} {k : Byte} {p : List Byte} {handle : State → Handled} {h : Handled}
    (ready : Ready s l k p) (handled : handle (s.dropFrame l) = h) :
    take l ⟨k, p⟩ handle s = .next (replied h.state l k h.status h.data) := by
  rw [take_ready ready, handled]
  rfl

theorem clampedIf_ne (x y : Int) : clampedIf (decide (x ≠ y)) = if x = y then .ok else .clamped := by
  unfold clampedIf
  by_cases h : x = y <;> simp [h]

theorem clampSky_eq (t : Int) : clampSky t = max skyMin (min t skyMax) := clamp_eq (by decide)

/-! ### SET RATE (R8) -/

theorem exec_setRate {s : State} {l : Link} {rate : Int} (h1 : -2 ^ 63 ≤ rate) (h2 : rate < 2 ^ 63)
    (ready : Ready s l 0x01 (beBytes 8 rate)) :
    let q := s.dropFrame l
    exec (.setRate l (beBytes 8 rate)) s = .next
      (if s.grant.holder ≠ some l then replied q l 0x01 .notGranted .none
       else if s.inHold then replied q l 0x01 .held .none
       else replied (q.setClock { s.clock with rt := clamp rate (-rateMax) rateMax }) l 0x01
        (clampedIf (decide (clamp rate (-rateMax) rateMax ≠ rate))) .none) := by
  intro q
  show execSetRate l (beBytes 8 rate) s = _
  unfold execSetRate
  rw [take_replied (k := kSetRate) ready rfl, readSigned8_beBytes h1 h2]
  simp only
  by_cases granted : s.grant.holder = some l
  · rw [if_neg (not_not.mpr granted), needGrant_holder (s := s.dropFrame l) granted]
    cases held : s.inHold with
    | false =>
      rw [needNormal_normal (s := s.dropFrame l) held]
      rfl
    | true =>
      rw [needNormal_hold (s := s.dropFrame l) held]
      rfl
  · rw [if_pos granted, needGrant_other (s := s.dropFrame l) granted]
    rfl

/-! ### Jumps by SET TIME and NUDGE (R9 to R11) -/

/-- The state and the reply of a jump of sky time that SET TIME or NUDGE asks for. -/
def jumpReplied (s : State) (l : Link) (k : Byte) (asked : Int) : State :=
  replied (skyJump ((s.dropFrame l).setClock { s.clock with t := clampSky asked }) s.clock.t (clampSky asked)) l k
    (if clampSky asked = asked then .ok else .clamped) .none

/-- The jump of a request that passed its checks. -/
theorem jumpTo_replied (s : State) (l : Link) (k : Byte) (asked : Int) :
    replied (jumpTo (s.dropFrame l) asked).state l k (jumpTo (s.dropFrame l) asked).status
      (jumpTo (s.dropFrame l) asked).data = jumpReplied s l k asked := by
  unfold jumpReplied
  rw [← clampedIf_ne]
  rfl

theorem exec_setTime {s : State} {l : Link} {x : Int} (h1 : -2 ^ 63 ≤ x) (h2 : x < 2 ^ 63)
    (granted : s.grant.holder = some l) (normal : s.inHold = false) (ready : Ready s l 0x02 (beBytes 8 x)) :
    exec (.setTime l (beBytes 8 x)) s = .next (jumpReplied s l 0x02 (256 * x)) := by
  show execSetTime l (beBytes 8 x) s = _
  unfold execSetTime
  rw [take_replied (k := kSetTime) ready rfl, readSigned8_beBytes h1 h2]
  simp only
  rw [needGrant_holder (s := s.dropFrame l) granted, needNormal_normal (s := s.dropFrame l) normal, mul_comm]
  exact congrArg _ (jumpTo_replied s l 0x02 (256 * x))

theorem exec_nudge {s : State} {l : Link} {x : Int} (h1 : -2 ^ 63 ≤ x) (h2 : x < 2 ^ 63)
    (granted : s.grant.holder = some l) (normal : s.inHold = false) (ready : Ready s l 0x03 (beBytes 8 x)) :
    exec (.nudge l (beBytes 8 x)) s = .next (jumpReplied s l 0x03 (s.clock.t + x)) := by
  show execNudge l (beBytes 8 x) s = _
  unfold execNudge
  rw [take_replied (k := kNudge) ready rfl, readSigned8_beBytes h1 h2]
  simp only
  rw [needGrant_holder (s := s.dropFrame l) granted, needNormal_normal (s := s.dropFrame l) normal]
  exact congrArg _ (jumpTo_replied s l 0x03 (s.clock.t + x))

/-- Without an INSIDE entry on sky time a jump is the clamped value and its reply alone. -/
theorem jumpReplied_noInside {s : State} (h : NoInsideOnSky s) (l : Link) (k : Byte) (asked : Int) :
    jumpReplied s l k asked =
      let q := s.dropFrame l
      if skyMax < asked then replied (q.setClock { s.clock with t := skyMax }) l k .clamped .none
      else if asked < skyMin then replied (q.setClock { s.clock with t := skyMin }) l k .clamped .none
      else replied (q.setClock { s.clock with t := asked }) l k .ok .none := by
  have limits : skyMin < skyMax := by decide
  unfold jumpReplied
  rw [skyJump_noInside _ _ (show NoInsideOnSky ((s.dropFrame l).setClock _) from h), clampSky_eq]
  simp only
  split_ifs with same high low high low
  · omega
  · omega
  · rw [same]
  · rw [show max skyMin (min asked skyMax) = skyMax by omega]
  · rw [show max skyMin (min asked skyMax) = skyMin by omega]
  · omega

/-- Settles O9: SET RATE by the clamp's three cases, SET TIME and NUDGE by the jump that no entry tests. -/
theorem clockRequestsSetRateAndTime : Obligations.ClockRequestsSetRateAndTime := by
  refine ⟨fun s l rate h1 h2 ready => ?_, fun s l x h1 h2 granted normal inside => ⟨fun ready => ?_, fun ready => ?_⟩⟩
  · have positive : 0 < rateMax := by decide
    rw [exec_setRate h1 h2 ready, clampedIf_ne, clamp_eq (by omega)]
    congr 3
    split_ifs with same high low high low
    · omega
    · omega
    · rw [same]
    · rw [show max (-rateMax) (min rate rateMax) = rateMax by omega]
    · rw [show max (-rateMax) (min rate rateMax) = -rateMax by omega]
    · omega
  · rw [exec_setTime h1 h2 granted normal ready, jumpReplied_noInside inside]
  · rw [exec_nudge h1 h2 granted normal ready, jumpReplied_noInside inside]

/-! ### Jumps over INSIDE entries (R165, R169) -/

/-- Over legal entries no PAUSE fires on a jump, for INSIDE with PAUSE is refused on sky time (R173). -/
theorem no_pause_on_jump {s : State} (legal : EntriesLegal s.watches) (x y r : Int) :
    ¬ PausesAt s .skyTime (fun w => JumpMeets w x y) r := by
  rintro ⟨i, w, ⟨hd, _, subject, inside, _⟩, pause, _⟩
  exact (legal i w hd).2.1 ⟨subject, inside, pause⟩

theorem skyJump_outcome {s : State} (legal : EntriesLegal s.watches) (x y : Int) :
    WatchOutcome s .skyTime (fun w => JumpMeets w x y) s.clock (skyJump s x y) := by
  have met : ∀ w, conditionMet w (.jump x y) = true ↔ JumpMeets w x y := fun w => conditionMet_jump w x y
  have outcome := observe_outcome met s .skyTime
  rwa [pauseClock_none met (no_pause_on_jump legal x y)] at outcome

/-! ### RESUME (R154 to R158) -/

theorem restoresTo_eq {a : Axis} {sv : SavedAxis} {c : AxisChannel} {m : PriorMode} (h : RestoresTo a sv c m) :
    m = restoredMode a sv c := by
  unfold RestoresTo at h
  unfold restoredMode
  cases hr : c.referenced with
  | false => simpa [hr] using h
  | true =>
    rcases sv with ⟨_ | _ | _ | _, _ | _⟩ <;> simpa [hr] using h

/-- RESUME takes each axis by its row of the table (R157). -/
theorem restoreAxis_row (a : Axis) (sv : SavedAxis) (c : AxisChannel) : ResumeRow a sv c (restoreAxis a sv c) := by
  intro m hm
  rw [restoresTo_eq hm]
  unfold restoreAxis
  cases hc : c.mode with
  | stopping next =>
    cases next with
    | parked => rfl
    | held => cases restoredMode a sv c <;> simp
  | recovering prior left => cases prior <;> rfl
  | held => rfl
  | parked => rfl
  | track => rfl
  | move _ => rfl
  | homing _ => rfl
  | fault _ => rfl

theorem tooHot_eq_false {th : Thermal} (h : ∀ x, th.latest = some x → x < th.tw + 10) : tooHot th = false := by
  unfold tooHot
  cases hl : th.latest with
  | none => rfl
  | some x => simpa using h x hl

/-- RESUME without a pending cause, from the holder or Link C and not too hot, carries the show on (R154 to R156). -/
theorem exec_resume {s : State} {l : Link} {snap : Snapshot} (may : s.grant.holder = some l ∨ l = .c)
    (held : s.holdCtl = .hold snap none) (cool : ∀ x, s.thermal.latest = some x → x < s.thermal.tw + 10)
    (ready : Ready s l 0x31 []) :
    exec (.resume l []) s = .next (replied (resumeShow (s.dropFrame l) snap) l 0x31 .ok .none) := by
  have allowed : holderOrConsole (s.dropFrame l) l = true := by
    rcases may with h | h <;> simp [holderOrConsole, h]
  show execResume l [] s = _
  unfold execResume
  rw [take_replied (k := kResume) ready rfl, show readEmpty [] = some () from rfl]
  simp only [allowed, State.dropFrame_holdCtl, held, State.dropFrame_thermal, tooHot_eq_false cool]
  rfl

/-- Settles O21: each of the three jumps is handed to the watch unit, whose outcome over legal entries has no PAUSE. -/
theorem jumpTestsInsideWatches : Obligations.JumpTestsInsideWatches := by
  intro s l legal q lands jumps
  have jumped (k : Byte) (i : Instr) (asked : Int) (h : exec i s = .next (jumpReplied s l k asked)) : jumps k i asked := by
    unfold jumpReplied at h
    rw [clampSky_eq] at h
    refine ⟨_, skyJump_outcome ?_ _ _, h⟩
    exact legal
  refine ⟨fun granted normal x h1 h2 => ⟨fun ready => ?_, fun ready => ?_⟩, fun snap may held moved cool ready => ?_⟩
  · exact jumped _ _ _ (exec_setTime h1 h2 granted normal ready)
  · exact jumped _ _ _ (exec_nudge h1 h2 granted normal ready)
  · intro t1 rt1
    refine ⟨Table.build fun a => restoreAxis a (snap.saved.get a) (s.axis a), _, fun a => ?_, skyJump_outcome ?_ _ _, ?_⟩
    · rw [Table.get_build]
      exact restoreAxis_row a _ _
    · exact legal
    · rw [exec_resume may held cool ready]
      unfold resumeShow resumeClock
      simp only [if_neg moved, clampSky_eq]
      rfl

end Sys2Proof.Proofs
end

section
/-! PROOFS. The update of a watched axis: what the stages do without watch entries, and then the watch unit (R105, R166 to
R172). -/

namespace Sys2Proof.Proofs

open Machine Safety

/-- What an update does before the watch unit sees it: its stages, or the burst alone where there are none (R95, R105). -/
def updated (s : State) (a : Axis) : State :=
  match updateStages s a with
  | some y => y.1.setAxis a y.2
  | none => s.setAxis a { s.axis a with burst := 0 }

theorem exec_profileUpdate (s : State) (a : Axis) :
    exec (.profileUpdate a) s = .next (observeAxis (updated s a) a (s.axis a).p ((updated s a).axis a).p) := by
  show execProfileUpdate a s = _
  unfold execProfileUpdate updated
  cases updateStages s a <;> simp

theorem updated_watches (s : State) (a : Axis) : (updated s a).watches = s.watches := by
  unfold updated
  cases h : updateStages s a with
  | none => rfl
  | some y => exact updateStages_watches h

theorem updated_setWatches (s : State) (a : Axis) (watches : Vector Watch 4) :
    updated (s.setWatches watches) a = (updated s a).setWatches watches := by
  unfold updated
  rw [updateStages_setWatches]
  cases updateStages s a <;> rfl

theorem unwatched_free (s : State) (subject : WatchSubject) :
    Unwatched (s.setWatches (Vector.replicate 4 { definition := none, hit := false, met := false })) subject := by
  intro i w hw
  rw [State.setWatches_watches, Table.get_replicate] at hw
  cases hw

/-- A change of an axis's position as the watch unit tests it (R166). -/
theorem conditionMet_axis (a : Axis) (w : WatchDef) (x y : Int) :
    conditionMet w (if bounded a then .step x y else .around (wrap x) (y - x)) = true ↔ AxisMeets a w x y := by
  unfold AxisMeets
  split
  · exact conditionMet_step w x y
  · exact conditionMet_around w x y

/-- Settles O24: without entries the update is `updated` with the entries set aside; with them the watch unit acts on it. -/
theorem updateOverWatchedAxis : Obligations.UpdateOverWatchedAxis := by
  intro s a unwatched
  have alone : exec (.profileUpdate a) unwatched = .next (updated unwatched a) := by
    have free : Unwatched (updated unwatched a) (.axis a) := by
      unfold Unwatched
      rw [updated_watches]
      exact unwatched_free s (.axis a)
    rw [exec_profileUpdate, observeAxis_unwatched _ _ free]
  have moved : (updated unwatched a).setWatches s.watches = updated s a := by
    rw [← updated_setWatches]
    rfl
  have same : updated unwatched a = (updated s a).setWatches _ := updated_setWatches s a _
  have met := fun w => conditionMet_axis a w (s.axis a).p ((updated s a).axis a).p
  have outcome := observe_outcome met (updated s a) (.axis a)
  refine ⟨_, _, alone, exec_profileUpdate s a, ?_⟩
  simp only [moved]
  rw [same]
  refine ⟨fun pauses => ?_, fun none => ?_⟩
  · rwa [pauseClock_axis met pauses] at outcome
  · rwa [pauseClock_none met none] at outcome

end Sys2Proof.Proofs
end

section
/-! PROOFS. The reset state keeps every law (R2, R33, R57, R85, R91, R93, R131, R146, R164, R183, R198). -/

namespace Sys2Proof.Proofs

open Machine Safety

theorem reset_axis (a : Axis) : State.reset.axis a = AxisChannel.reset := Table.get_replicate _ a

theorem reset_watch (i : WatchNo) : (State.reset.watches.get i).definition = none := by
  rw [show State.reset.watches.get i = _ from Table.get_replicate _ i]

theorem reset_patch (i : PatchNo) : State.reset.patches.get i = .unset := Table.get_replicate _ i

theorem reset_track (k : Track) : State.reset.eph.tracks.get k = { last := 0, source := .uncovered } :=
  Table.get_replicate _ k

theorem reset_clockLaw : ClockLaw State.reset := by
  refine ⟨clockInRange_pin (t := 0) (by decide), fun i w h => ?_, nofun⟩
  rw [reset_watch] at h
  cases h

theorem reset_grantLaw : GrantLaw State.reset := by
  refine ⟨by decide, by decide, nofun, fun _ => ⟨rfl, fun i w h => ?_⟩⟩
  rw [reset_watch] at h
  cases h

/-- The built-in parameters are in range and consistent on either kind of axis (R93, R114). -/
theorem builtIn_legal (a : Axis) : ParamsLegal a AxisParams.builtIn :=
  ⟨by decide, by decide, by decide, by decide, by decide, by decide, fun _ => by decide, fun _ => by decide⟩

theorem reset_axisLaw : AxisLaw State.reset := by
  intro a
  rw [reset_axis]
  exact
    ⟨builtIn_legal a, ⟨fun _ => id, fun _ => rfl⟩, fun _ => rfl, by decide, trivial, trivial, nofun, nofun, by decide,
      by decide, by decide, fun _ => ⟨rfl, rfl⟩⟩

theorem reset_storeLaw : StoreLaw State.reset :=
  ⟨rfl, nofun, List.length_replicate, rfl⟩

theorem reset_patchLaw : PatchLaw State.reset := by
  constructor
  · intro i n g h
    rw [reset_patch] at h
    rcases h with h | h <;> cases h
  · intro i j n g h' h _
    rw [reset_patch] at h
    cases h

theorem reset_angleLaw : AngleLaw State.reset := by
  refine ⟨by decide, by decide, by decide, by decide, fun k => ?_⟩
  rw [reset_track]
  split <;> decide

theorem reset_linksLaw : LinksLaw State.reset := by
  intro l
  have fresh : State.reset.link l = LinkState.reset := by cases l <;> rfl
  rw [fresh]
  exact ⟨by decide, by decide, nofun, fun _ => rfl, nofun⟩

/-- Settles O53, law by law. -/
theorem lawsHoldAtReset : Obligations.LawsHoldAtReset := by
  refine ⟨reset_clockLaw, fun a => ?_, reset_grantLaw, reset_axisLaw, reset_storeLaw, reset_patchLaw, reset_angleLaw,
    ⟨by decide, by decide, by decide, fun _ => ⟨rfl, rfl⟩⟩, reset_linksLaw⟩
  rw [reset_axis]
  trivial

end Sys2Proof.Proofs
end

section
/-! PROOFS. What each command keeps of a predicate of states that ignores the blocks which the command writes, said once
for every such predicate: which blocks those are is each lemma's list of hypotheses. -/

namespace Sys2Proof.Proofs

open Machine Safety

/-- A predicate that one block of the state, replaced by `update`, does not bear on. -/
def Ignores {α : Type} (P : State → Prop) (update : State → α → State) : Prop := ∀ s x, P s → P (update s x)

/-- A predicate that nothing written by hold entry, by the watch unit or by a grant change bears on. -/
structure IgnoresControl (P : State → Prop) : Prop where
  links : IgnoresLinks P
  clock : Ignores P State.setClock
  axes : Ignores P State.setAxes
  hold : Ignores P State.setHold
  watches : Ignores P State.setWatches
  grant : Ignores P State.setGrant

/-! ### Commands that write the links alone (R51, R63, R86, R116, R159, R175 to R181, R189, R194 to R196) -/

section Links

variable {P : State → Prop} (links : IgnoresLinks P)
include links

theorem execReadTrack_keeps (l : Link) (p : List Byte) : Keeps P (execReadTrack l p) :=
  keeps_take links fun s h => by split <;> exact h

theorem execPatchRead_keeps (l : Link) (p : List Byte) : Keeps P (execPatchRead l p) :=
  keeps_take links fun s h => by split <;> exact h

theorem execReadSegment_keeps (l : Link) (p : List Byte) : Keeps P (execReadSegment l p) :=
  keeps_take links fun s h => by
    split
    · exact h
    · split <;> exact h

theorem execReadAxis_keeps (l : Link) (p : List Byte) : Keeps P (execReadAxis l p) :=
  keeps_take links fun s h => by split <;> exact h

theorem execSnapshotRead_keeps (l : Link) (p : List Byte) : Keeps P (execSnapshotRead l p) :=
  keeps_take links fun s h => by split <;> exact h

theorem execWatchStatus_keeps (l : Link) (p : List Byte) : Keeps P (execWatchStatus l p) :=
  keeps_take links fun s h => by split <;> exact h

theorem execReadStatus_keeps (l : Link) (p : List Byte) : Keeps P (execReadStatus l p) :=
  keeps_take links fun s h => by
    split
    · exact h
    · exact links _ _ h

theorem execGuardArm_keeps (l : Link) (p : List Byte) : Keeps P (execGuardArm l p) :=
  keeps_take links fun s h => by
    split
    · exact h
    · split
      · exact h
      · exact links _ _ h

theorem execReportInterval_keeps (l : Link) (p : List Byte) : Keeps P (execReportInterval l p) :=
  keeps_take links fun s h => by
    split
    · exact h
    · exact links _ _ h
    · exact links _ _ h

theorem execNonRequestKind_keeps (l : Link) (k : Byte) (p : List Byte) : Keeps P (execNonRequestKind l k p) := by
  intro s t h ht
  unfold execNonRequestKind at ht
  split at ht
  · cases ht
    exact h
  · exact keeps_take links (fun _ hu => hu) s t h ht

theorem execFrameArrival_keeps (l : Link) (k : Byte) (p : List Byte) : Keeps P (execFrameArrival l k p) := by
  intro s t h ht
  unfold execFrameArrival at ht
  split at ht <;> cases ht <;> exact links _ _ h

theorem execCharacterReceived_keeps (l : Link) (char : Byte) (fault : Bool) :
    Keeps P (execCharacterReceived l char fault) :=
  keeps_next fun _ h => links _ _ h

theorem execTransmitStart_keeps (l : Link) : Keeps P (execTransmitStart l) :=
  keeps_next fun _ h => links _ _ h

theorem execReportEvent_keeps (l : Link) : Keeps P (execReportEvent l) := by
  intro s t h ht
  unfold execReportEvent at ht
  split at ht <;> cases ht
  · exact h
  · exact h
  · exact links _ _ h

end Links

/-! ### Commands that write the patch table (R59 to R62) -/

section Patches

variable {P : State → Prop} (links : IgnoresLinks P) (patches : Ignores P State.setPatches)
include links patches

theorem execPatchSet_keeps (l : Link) (p : List Byte) : Keeps P (execPatchSet l p) :=
  keeps_take links fun s h => by
    split
    · exact h
    · refine needGrant_keeps h ?_
      split
      · exact h
      · exact patches _ _ h

theorem execPatchEnable_keeps (l : Link) (p : List Byte) : Keeps P (execPatchEnable l p) :=
  keeps_take links fun s h => by
    split
    · exact h
    refine needGrant_keeps h ?_
    split
    · exact h
    · exact h
    · split
      · exact h
      · exact patches _ _ h

theorem execPatchDisable_keeps (l : Link) (p : List Byte) : Keeps P (execPatchDisable l p) :=
  keeps_take links fun s h => by
    split
    · exact h
    · refine needGrant_keeps h ?_
      split
      · exact patches _ _ h
      · exact h

end Patches

/-! ### Commands that write the ephemeris store (R69, R73 to R84) -/

section Store

variable {P : State → Prop} (links : IgnoresLinks P) (store : Ignores P State.setStore)
include links store

theorem execSegmentWrite_keeps (l : Link) (p : List Byte) : Keeps P (execSegmentWrite l p) :=
  keeps_take links fun s h => by
    split
    · exact h
    split
    · exact h
    · split_ifs
      · exact h
      · exact h
      · exact store _ _ h

theorem execSectorErase_keeps (l : Link) (p : List Byte) : Keeps P (execSectorErase l p) :=
  keeps_take links fun s h => by
    split
    · exact h
    split
    · exact h
    · split_ifs
      · exact h
      · exact h
      · exact store _ _ h

theorem execEraseSuspend_keeps (l : Link) (p : List Byte) : Keeps P (execEraseSuspend l p) :=
  keeps_take links fun s h => by
    split
    · exact h
    · split
      · exact store _ _ h
      · exact h

theorem execEraseResume_keeps (l : Link) (p : List Byte) : Keeps P (execEraseResume l p) :=
  keeps_take links fun s h => by
    split
    · exact h
    · split
      · exact store _ _ h
      · exact h
      · exact h

theorem execSectorCheck_keeps (l : Link) (p : List Byte) : Keeps P (execSectorCheck l p) :=
  keeps_take links fun s h => by
    split
    · exact h
    · split
      · exact h
      · exact store _ _ h

theorem execSaveParameters_keeps (l : Link) (p : List Byte) : Keeps P (execSaveParameters l p) :=
  keeps_take links fun s h => by
    split
    · exact h
    · refine needGrant_keeps h ?_
      split
      · exact h
      · exact store _ _ h

theorem execProtect_keeps (l : Link) (p : List Byte) : Keeps P (execProtect l p) :=
  keeps_take links fun s h => by
    split
    · exact h
    · split
      · exact h
      · exact store _ _ h

theorem execWriteCompletion_keeps (result : CellResult) : Keeps P (execWriteCompletion result) := by
  intro s t h ht
  unfold execWriteCompletion at ht
  split at ht <;> cases ht
  · exact links _ _ (store _ _ h)
  · exact links _ _ (store _ _ h)
  · exact h

theorem execEraseCompletion_keeps (result : CellResult) : Keeps P (execEraseCompletion result) := by
  intro s t h ht
  unfold execEraseCompletion at ht
  split at ht <;> cases ht
  · exact links _ _ (store _ _ h)
  · exact h

theorem execCheckSectorCovered_keeps : Keeps P execCheckSectorCovered := by
  intro s t h ht
  unfold execCheckSectorCovered at ht
  split at ht
  · simp only at ht
    split at ht <;> cases ht
    · exact store _ _ h
    · exact links _ _ (store _ _ h)
  · cases ht
    exact h

theorem execSaveErasePhaseEnd_keeps (result : CellResult) : Keeps P (execSaveErasePhaseEnd result) := by
  intro s t h ht
  unfold execSaveErasePhaseEnd at ht
  split at ht
  · split at ht <;> cases ht
    · exact store _ _ h
    · exact links _ _ (store _ _ h)
  · cases ht
    exact h

theorem execSaveWritePhaseEnd_keeps (result : CellResult) : Keeps P (execSaveWritePhaseEnd result) := by
  intro s t h ht
  unfold execSaveWritePhaseEnd at ht
  split at ht
  · split at ht <;> cases ht <;> exact links _ _ (store _ _ h)
  · cases ht
    exact h

end Store

/-! ### Commands that write the axes alone (R107 to R119, R128, R137, R141) -/

section Axes

variable {P : State → Prop} (links : IgnoresLinks P) (axes : Ignores P State.setAxes)
include links axes

theorem execTrack_keeps (l : Link) (p : List Byte) : Keeps P (execTrack l p) :=
  keeps_take links fun s h => by
    split
    · exact h
    · refine needGrant_keeps h (needNormal_keeps h ?_)
      split
      · exact h
      · exact axes _ _ h

theorem execMove_keeps (l : Link) (p : List Byte) : Keeps P (execMove l p) :=
  keeps_take links fun s h => by
    split
    · exact h
    · refine needGrant_keeps h (needNormal_keeps h ?_)
      split
      · exact h
      · exact axes _ _ h

theorem execPark_keeps (l : Link) (p : List Byte) : Keeps P (execPark l p) :=
  keeps_take links fun s h => by
    split
    · exact h
    · exact needGrant_keeps h (needNormal_keeps h (axes _ _ h))

theorem execSetAxisParam_keeps (l : Link) (p : List Byte) : Keeps P (execSetAxisParam l p) :=
  keeps_take links fun s h => by
    split
    · exact h
    · refine needGrant_keeps h (needNormal_keeps h ?_)
      simp only
      split_ifs
      · exact h
      · exact h
      · exact axes _ _ h

theorem execHome_keeps (l : Link) (p : List Byte) : Keeps P (execHome l p) :=
  keeps_take links fun s h => by
    split
    · exact h
    · refine needGrant_keeps h (needNormal_keeps h ?_)
      split
      · exact h
      · exact axes _ _ h

theorem execClearFault_keeps (l : Link) (p : List Byte) (lines : Lines) : Keeps P (execClearFault l p lines) :=
  keeps_take links fun s h => by
    split
    · exact h
    · refine needGrant_keeps h ?_
      split_ifs
      · exact h
      · exact h
      · exact axes _ _ h

end Axes

theorem execIndexEdge_keeps {P : State → Prop} (axes : Ignores P State.setAxes) (a : Axis) : Keeps P (execIndexEdge a) :=
  keeps_next fun _ h => axes _ _ h

theorem execTripWindowExpiry_keeps {P : State → Prop} (axes : Ignores P State.setAxes) (a : Axis) :
    Keeps P (execTripWindowExpiry a) := by
  intro s t h ht
  unfold execTripWindowExpiry at ht
  split at ht <;> cases ht
  · exact axes _ _ h
  · exact h

/-! ### Requests that write the watch entries alone (R173 to R175) -/

section Watches

variable {P : State → Prop} (links : IgnoresLinks P) (watches : Ignores P State.setWatches)
include links watches

theorem execWatchSet_keeps (l : Link) (p : List Byte) : Keeps P (execWatchSet l p) :=
  keeps_take links fun s h => by
    split
    · exact h
    · split_ifs
      · exact h
      · exact h
      · exact watches _ _ h

theorem execWatchEnable_keeps (l : Link) (p : List Byte) : Keeps P (execWatchEnable l p) :=
  keeps_take links fun s h => by
    split
    · exact h
    simp only
    split
    · exact h
    split
    · exact h
    · split
      · exact h
      · exact watches _ _ h

theorem execWatchDisable_keeps (l : Link) (p : List Byte) : Keeps P (execWatchDisable l p) :=
  keeps_take links fun s h => by
    split
    · exact h
    simp only
    split
    · exact h
    split
    · exact h
    · exact watches _ _ h

theorem execWatchClear_keeps (l : Link) (p : List Byte) : Keeps P (execWatchClear l p) :=
  keeps_take links fun s h => by
    split
    · exact h
    simp only
    split
    · exact h
    split
    · exact h
    · exact watches _ _ h

theorem execWatchAcknowledge_keeps (l : Link) (p : List Byte) : Keeps P (execWatchAcknowledge l p) :=
  keeps_take links fun s h => by
    split
    · exact h
    · exact watches _ _ h

end Watches

/-! ### What hands over hold causes, changes to the watch unit, or the grant (R148 to R158, R165 to R172, R183 to R191) -/

section Control

variable {P : State → Prop} (control : IgnoresControl P)
include control

theorem send_keeps {s : State} (h : P s) (e : Event) : P (s.send e) := control.links _ _ h

theorem enterHold_keeps {s : State} (h : P s) (cause : HoldCause) : P (enterHold s cause) :=
  send_keeps control (control.axes _ _ (control.clock _ _ (control.hold _ _ h))) _

theorem handCause_keeps {s : State} (h : P s) (cause : HoldCause) : P (handCause s cause) := by
  rcases handCause_cases s cause with ⟨_, _, e⟩ | ⟨_, _, e⟩ | ⟨_, _, _, e⟩ <;> rw [e]
  · exact enterHold_keeps control h cause
  · exact control.hold _ _ h
  · exact h

theorem foldl_sendWatch_keeps {s : State} (h : P s) (fired : List WatchNo) : P (fired.foldl sendWatch s) := by
  induction fired generalizing s with
  | nil => exact h
  | cons i rest ih =>
    refine ih ?_
    rcases sendWatch_clean s i with ⟨_, _, e⟩ | ⟨_, e⟩ <;> rw [e]
    · exact send_keeps control h _
    · exact h

theorem observe_keeps {s : State} (h : P s) (subject : WatchSubject) (ch : Change) : P (observe s subject ch) := by
  obtain ⟨t, ht, outcome⟩ := observe_cases s subject ch
  have fired : P t := by
    rw [ht]
    exact control.clock _ _ (foldl_sendWatch_keeps control (control.watches _ _ h) _)
  rcases outcome with ⟨_, e⟩ | ⟨_, _, _, e⟩ <;> rw [e]
  · exact fired
  · exact handCause_keeps control fired _

theorem grantChange_keeps {s : State} (h : P s) (holder : Option Link) (queue : List Link) (reason : GrantReason) :
    P (grantChange s holder queue reason) :=
  send_keeps control (control.watches _ _ (control.grant _ _ h)) _

theorem releaseGrant_keeps {s : State} (h : P s) (reason : GrantReason) : P (releaseGrant s reason) := by
  rcases releaseGrant_cases s reason with ⟨_, e⟩ | ⟨_, _, _, e⟩ <;> rw [e] <;> exact grantChange_keeps control h _ _ _

/-! The sky clock (R3 to R11). -/

theorem execClockStep_keeps : Keeps P execClockStep := by
  have told {s : State} (h : P s) (side : Option Side) : P (sendSkyLimit s side) := by
    cases side with
    | none => exact h
    | some side => exact send_keeps control h _
  exact keeps_next fun _ h => observe_keeps control (told (control.clock _ _ h) _) _ _

theorem execSetRate_keeps (l : Link) (p : List Byte) : Keeps P (execSetRate l p) :=
  keeps_take control.links fun s h => by
    split
    · exact h
    · exact needGrant_keeps h (needNormal_keeps h (control.clock _ _ h))

theorem jumpTo_keeps {s : State} (h : P s) (t : Int) : P (jumpTo s t).state :=
  observe_keeps control (control.clock _ _ h) _ _

theorem execSetTime_keeps (l : Link) (p : List Byte) : Keeps P (execSetTime l p) :=
  keeps_take control.links fun s h => by
    split
    · exact h
    · exact needGrant_keeps h (needNormal_keeps h (jumpTo_keeps control h _))

theorem execNudge_keeps (l : Link) (p : List Byte) : Keeps P (execNudge l p) :=
  keeps_take control.links fun s h => by
    split
    · exact h
    · exact needGrant_keeps h (needNormal_keeps h (jumpTo_keeps control h _))

/-! The profile update (R95 to R105): of a predicate that an evaluation may bear on, what a role target keeps is asked. -/

theorem softClamp_keeps {s : State} (h : P s) (a : Axis) (c : AxisChannel) : P (softClamp s a c).1 := by
  unfold softClamp
  split
  · exact send_keeps control h _
  · exact h

theorem lagTest_keeps {s : State} (h : P s) (a : Axis) (c : AxisChannel) (e : Int) : P (lagTest s a c e).1 := by
  unfold lagTest
  split_ifs
  · exact h
  · exact send_keeps control h _
  · exact h

theorem homingEnd_keeps {s : State} (h : P s) (a : Axis) (c : AxisChannel) (x : HomingRecord) (moved vmax : Int) :
    P (homingEnd s a c x moved vmax).1 := by
  have ended : P (settled s a c).1 := by
    unfold settled
    split <;> exact send_keeps control h _
  unfold homingEnd
  simp only
  split
  · exact h
  · cases x.phase <;> simp only
    case seek =>
      split
      · exact send_keeps control h _
      · exact h
    case backoff => split <;> exact h
    case creep => exact h
    case settle =>
      split
      · exact ended
      · exact h

theorem updateStages_keeps (target : ∀ s a, P s → P (roleTarget s a).1) {s : State} (h : P s) {a : Axis}
    {y : State × AxisChannel} (hy : updateStages s a = some y) : P y.1 := by
  unfold updateStages at hy
  split at hy <;> cases hy
  case h_1 => exact lagTest_keeps control (softClamp_keeps control (target s a h) _ _) _ _ _
  case h_2 => exact softClamp_keeps control h _ _
  case h_3 => exact softClamp_keeps control h _ _
  case h_4 => exact softClamp_keeps control h _ _
  case h_5 => exact softClamp_keeps control h _ _
  case h_6 => exact homingEnd_keeps control h _ _ _ _ _

theorem execProfileUpdate_keeps (target : ∀ s a, P s → P (roleTarget s a).1) (a : Axis) :
    Keeps P (execProfileUpdate a) := by
  intro s t h ht
  unfold execProfileUpdate at ht
  split at ht <;> cases ht
  next hy => exact observe_keeps control (control.axes _ _ (updateStages_keeps control target h hy)) _ _
  next => exact observe_keeps control (control.axes _ _ h) _ _

/-! Trips and end switches (R132 to R139). -/

theorem reportFault_keeps {s : State} (h : P s) (a : Axis) (kind : HoldFaultKind) : P (reportFault s a kind) :=
  handCause_keeps control (send_keeps control h _) _

theorem switchActive_keeps {s : State} (h : P s) (a : Axis) (side : Side) : P (switchActive s a side) := by
  unfold switchActive
  split
  · exact reportFault_keeps control (control.axes _ _ h) _ _
  · exact h

theorem manualTrip_keeps {s : State} (h : P s) (a : Axis) : P (manualTrip s a) :=
  reportFault_keeps control (control.axes _ _ h) _ _

theorem retryTrip_keeps {s : State} (h : P s) (a : Axis) (prior : PriorMode) : P (retryTrip s a prior) := by
  unfold retryTrip
  simp only
  split
  · exact control.axes _ _ h
  · exact manualTrip_keeps control (control.axes _ _ h) a

theorem tripped_keeps {s : State} (h : P s) (a : Axis) : P (tripped s a) := by
  unfold tripped
  split
  · exact h
  · exact retryTrip_keeps control h a _
  · split
    · exact retryTrip_keeps control (control.axes _ _ h) a _
    · exact manualTrip_keeps control (control.axes _ _ h) a

theorem tripSeen_keeps {s : State} (h : P s) (x : TripSeen) : P (tripSeen s x) := by
  rcases tripSeen_cases s x with ⟨_, _, _, e⟩ | ⟨_, _, _, e⟩ | ⟨_, e⟩ <;> rw [e]
  · exact tripped_keeps control (control.axes _ _ h) _
  · exact control.axes _ _ h
  · exact h

theorem execRetryExpiry_keeps (a : Axis) (line : Bool) : Keeps P (execRetryExpiry a line) := by
  intro s t h ht
  unfold execRetryExpiry at ht
  split at ht
  · simp only at ht
    split at ht <;> cases ht
    · exact retryTrip_keeps control (control.axes _ _ h) a _
    · exact control.axes _ _ (control.axes _ _ h)
  · cases ht
    exact h

/-- Device reset keeps what the start-up brings about, for the lines active at its end are taken as trips and switches. -/
theorem execDeviceReset_keeps (started : ∀ s, P s → P (powerOn s)) (trips : List Axis) (switches : List (Axis × Side)) :
    Keeps P (execDeviceReset trips switches) := by
  have tripsTaken {s : State} (h : P s) : P (takeTripLines trips s) := by
    unfold takeTripLines
    induction trips generalizing s with
    | nil => exact h
    | cons a rest ih => exact ih (tripSeen_keeps control h _)
  have switchesTaken {s : State} (h : P s) : P (takeSwitches switches s) := by
    unfold takeSwitches
    induction switches generalizing s with
    | nil => exact h
    | cons x rest ih => exact ih (switchActive_keeps control h _ _)
  exact keeps_next fun s h => switchesTaken (tripsTaken (started s h))

/-! Hold and resume (R153 to R160). -/

theorem execHold_keeps (l : Link) (p : List Byte) : Keeps P (execHold l p) :=
  keeps_take control.links fun s h => by
    split
    · exact h
    · show P (if s.inHold then s else enterHold s (.request l))
      split
      · exact h
      · exact enterHold_keeps control h _

theorem resumeShow_keeps {s : State} (h : P s) (snap : Snapshot) : P (resumeShow s snap) := by
  unfold resumeShow
  simp only
  have resumed := fun clock axes x e =>
    send_keeps control (control.hold _ x (control.axes _ axes (control.clock _ clock h))) e
  split
  · exact resumed _ _ _ _
  · exact observe_keeps control (resumed _ _ _ _) _ _

theorem execResume_keeps (l : Link) (p : List Byte) : Keeps P (execResume l p) :=
  keeps_take control.links fun s h => by
    split
    · exact h
    split
    · exact h
    split
    · exact h
    · split
      · exact h
      split
      · exact send_keeps control (control.hold _ _ h) _
      · exact resumeShow_keeps control h _

theorem execSnapshotEdit_keeps (l : Link) (p : List Byte) : Keeps P (execSnapshotEdit l p) :=
  keeps_take control.links fun s h => by
    split
    · exact h
    split
    · exact h
    split
    · exact h
    · exact control.hold _ _ h

/-! Guards and the grant (R183 to R191, R197). -/

theorem guardExpire_keeps {s : State} (h : P s) (l : Link) (action : GuardAction) : P (guardExpire s l action) := by
  have told : P (s.send (.guardExpired l action)) := send_keeps control h _
  have released (c : Bool) :
      P (if c then releaseGrant (s.send (.guardExpired l action)) .guard else s.send (.guardExpired l action)) := by
    split
    · exact releaseGrant_keeps control told _
    · exact told
  have target (c : Bool) (u : State) (hu : P u) : P (if c then u.setClock u.clock.releaseTarget else u) := by
    split
    · exact control.clock _ _ hu
    · exact hu
  have caused (u : State) (hu : P u) : P (if action = .hold then handCause u (.guard l) else u) := by
    split
    · exact handCause_keeps control hu _
    · exact hu
  exact control.grant _ _ (caused _ (target _ _ (released _)))

theorem execGuardExpiry_keeps (l : Link) : Keeps P (execGuardExpiry l) := by
  intro s t h ht
  unfold execGuardExpiry at ht
  split at ht <;> cases ht
  · exact guardExpire_keeps control (control.links _ _ h) _ _
  · exact h

theorem execGrantRequest_keeps (l : Link) (p : List Byte) : Keeps P (execGrantRequest l p) :=
  keeps_take control.links fun s h => by
    split
    · exact h
    split
    · exact grantChange_keeps control h _ _ _
    · split_ifs
      · exact h
      · exact h
      · exact control.grant _ _ h

theorem execGrantRelease_keeps (l : Link) (p : List Byte) : Keeps P (execGrantRelease l p) :=
  keeps_take control.links fun s h => by
    split
    · exact h
    split
    · exact releaseGrant_keeps control h _
    · exact control.grant _ _ h

theorem execGrantSeize_keeps (l : Link) (p : List Byte) : Keeps P (execGrantSeize l p) :=
  keeps_take control.links fun s h => by
    split
    · exact h
    split_ifs
    · exact h
    · exact h
    · exact grantChange_keeps control h _ _ _

theorem execLinkReset_keeps (l : Link) (p : List Byte) : Keeps P (execLinkReset l p) :=
  keeps_take control.links fun s h => by
    split
    · exact h
    · have left : P (leaveQueue (s.setLink l (s.link l).resetRequest) l) := control.grant _ _ (control.links _ _ h)
      simp only [answer]
      split
      · exact releaseGrant_keeps control left _
      · exact left

end Control

end Sys2Proof.Proofs
end

section
/-! PROOFS. The ranges of the star ball's angles, of the evaluator's values and of the thermal monitor are kept by every
step (R18, R32, R45, R131, R144). Seven commands write one of these three blocks; the others leave them. -/

namespace Sys2Proof.Proofs

open Machine Safety

/-! ### The two laws by the block they read -/

/-- The ranges of R18. -/
def BallInRange (b : StarBall) : Prop :=
  (-quarterTurn ≤ b.latitude ∧ b.latitude ≤ quarterTurn) ∧ (0 ≤ b.longitude ∧ b.longitude < turn) ∧
  (0 ≤ b.frozen ∧ b.frozen < turn)

/-- The range of a track's value: signed on a latitude track, a wrapped angle on the others (R32, R45). -/
def TrackInRange (k : Track) (x : Int) : Prop :=
  if latitudeTrack k then -halfTurn ≤ x ∧ x < halfTurn else 0 ≤ x ∧ x < turn

/-- The ranges of R32. -/
def EphInRange (e : Evaluator) : Prop :=
  (0 ≤ e.phase ∧ e.phase < turn) ∧ ∀ k : Track, TrackInRange k (e.tracks.get k).last

/-- TW one of its twelve values (R144). -/
def TwLegal (tw : Int) : Prop := 60 ≤ tw ∧ tw ≤ 115 ∧ tw % 5 = 0

/-- The law of the thermal monitor, of its block. -/
def ThermalInRange (x : Thermal) : Prop :=
  TwLegal x.tw ∧ (x.latest = none → x.warning = false ∧ x.overMark = false)

/-- Both laws at once, block by block. -/
def RangeLaw (s : State) : Prop := BallInRange s.ball ∧ EphInRange s.eph ∧ ThermalInRange s.thermal

theorem rangeLaw_iff (s : State) : RangeLaw s ↔ AngleLaw s ∧ ThermalLaw s := by
  unfold RangeLaw BallInRange EphInRange ThermalInRange TwLegal TrackInRange AngleLaw ThermalLaw
  simp only [and_assoc]

theorem rangeLaw_setBall {s : State} (h : RangeLaw s) {x : StarBall} (range : BallInRange x) : RangeLaw (s.setBall x) :=
  ⟨range, h.2⟩

theorem rangeLaw_setEph {s : State} (h : RangeLaw s) {x : Evaluator} (range : EphInRange x) : RangeLaw (s.setEph x) :=
  ⟨h.1, range, h.2.2⟩

theorem rangeLaw_setThermal {s : State} (h : RangeLaw s) {x : Thermal} (range : ThermalInRange x) :
    RangeLaw (s.setThermal x) :=
  ⟨h.1, h.2.1, range⟩

theorem rangeLaw_ignoresPatches : Ignores RangeLaw State.setPatches := fun _ _ h => h

theorem rangeLaw_ignoresStore : Ignores RangeLaw State.setStore := fun _ _ h => h

theorem rangeLaw_ignoresControl : IgnoresControl RangeLaw where
  links _ _ h := h
  clock _ _ h := h
  axes _ _ h := h
  hold _ _ h := h
  watches _ _ h := h
  grant _ _ h := h

theorem rangeLaw_ignoresLinks : IgnoresLinks RangeLaw := rangeLaw_ignoresControl.links

/-! ### Star ball geometry (R21, R25 to R29) -/

theorem readSite_longitude {p : List Byte} {lat lon : Int} (h : readSite p = some (lat, lon)) : 0 ≤ lon ∧ lon < turn := by
  unfold readSite ofLength at h
  split at h <;> cases h
  exact wrap_range _

theorem execSetSite_keeps_rangeLaw (l : Link) (p : List Byte) : Keeps RangeLaw (execSetSite l p) :=
  keeps_take rangeLaw_ignoresLinks fun s h => by
    split
    · exact h
    next lat lon site =>
      obtain ⟨_, _, frozen⟩ := h.1
      exact needGrant_keeps h (rangeLaw_setBall h ⟨clamp_range (by decide), readSite_longitude site, frozen⟩)

/-- The frozen angle is a coupled target, a wrapped angle (R21, R28). -/
theorem couple_keeps_rangeLaw {s : State} (h : RangeLaw s) (on : Bool) : RangeLaw (couple s on) := by
  obtain ⟨latitude, longitude, _⟩ := h.1
  unfold couple
  split_ifs
  · exact rangeLaw_setBall h h.1
  · exact rangeLaw_setBall h ⟨latitude, longitude, wrap_range _⟩
  · exact h

theorem handleCouple_keeps_rangeLaw {s : State} (h : RangeLaw s) (l : Link) (p : List Byte) :
    RangeLaw (handleCouple l p s).state := by
  unfold handleCouple
  split
  · exact h
  · exact needGrant_keeps h (couple_keeps_rangeLaw h _)

theorem take_handleCouple_keeps_rangeLaw (l : Link) (p : List Byte) :
    Keeps RangeLaw (take l ⟨kCouple, p⟩ (handleCouple l p)) :=
  keeps_take rangeLaw_ignoresLinks fun _ h => handleCouple_keeps_rangeLaw h l p

theorem execCoupleOff_keeps_rangeLaw (l : Link) (p : List Byte) : Keeps RangeLaw (execCoupleOff l p) := by
  intro s t h ht
  unfold execCoupleOff at ht
  split at ht
  · cases ht
    exact h
  · exact take_handleCouple_keeps_rangeLaw l p s t h ht

theorem execCoupleOn_keeps_rangeLaw (l : Link) (p : List Byte) : Keeps RangeLaw (execCoupleOn l p) := by
  intro s t h ht
  unfold execCoupleOn at ht
  split at ht
  · cases ht
    exact h
  · exact take_handleCouple_keeps_rangeLaw l p s t h ht

/-! ### The evaluator (R39 to R48) -/

/-- A finished value lies in the range of its track (R45). -/
theorem finish_inRange (k : Track) (v : Int) : TrackInRange k (finish k v) := by
  unfold TrackInRange finish
  split
  · have range : -2147483648 ≤ saturate32 v ∧ saturate32 v ≤ 2147483647 := clamp_range (by decide)
    unfold halfTurn
    omega
  · exact wrap_range v

theorem patchCandidates_track {patches : Vector PatchEntry 8} {k : Track} {c : Candidate}
    (h : c ∈ patchCandidates patches k) : c.segment.track = k := by
  obtain ⟨e, _, made⟩ := List.mem_filterMap.mp h
  split at made
  · split_ifs at made with track
    cases made
    exact track
  · cases made

theorem slotCandidates_track {s : State} {k : Track} {c : Candidate} (h : c ∈ slotCandidates s k) :
    c.segment.track = k := by
  obtain ⟨x, _, made⟩ := List.mem_filterMap.mp h
  split at made
  · split_ifs at made with chosen
    cases made
    exact chosen.1
  · cases made

theorem lowest_mem {candidates : List Candidate} {c : Candidate} (h : lowest candidates = some c) : c ∈ candidates := by
  induction candidates with
  | nil => cases h
  | cons x rest ih =>
    unfold lowest at h
    split at h
    · cases h
      exact List.mem_cons_self
    next y found =>
      split_ifs at h <;> cases h
      · exact List.mem_cons_of_mem _ (ih found)
      · exact List.mem_cons_self

/-- The winner of a track is a segment of that track (R39, R40). -/
theorem winner_track {s : State} {k : Track} {tms : Int} {c : Candidate} (h : winner s k tms = some c) :
    c.segment.track = k := by
  have candidate := List.mem_of_mem_filter (lowest_mem h)
  rcases List.mem_append.mp candidate with patch | slot
  · exact patchCandidates_track patch
  · exact slotCandidates_track slot

/-- An evaluation gives a finished value of its track, or keeps the value there is (R40, R41, R45). -/
theorem evaluation_inRange {s : State} {k : Track} (kept : TrackInRange k (s.eph.tracks.get k).last) (tms : Int) :
    TrackInRange k (evaluation s k tms).last := by
  unfold evaluation
  split
  next c won =>
    have finished : TrackInRange c.segment.track (segmentValue c.segment tms) := finish_inRange _ _
    rw [winner_track won] at finished
    exact finished
  next => exact kept

theorem evaluateTrack_keeps_rangeLaw {s : State} (h : RangeLaw s) (k : Track) : RangeLaw (evaluateTrack s k) := by
  obtain ⟨phase, tracks⟩ := h.2.1
  have written : RangeLaw (s.setEph
      { s.eph with tracks := s.eph.tracks.set k.val (evaluation s k (skyMs s.clock.t)) k.isLt }) := by
    refine rangeLaw_setEph h ⟨phase, fun j => ?_⟩
    rw [Table.get_set]
    split
    next same =>
      rw [same]
      exact evaluation_inRange (tracks k) _
    next => exact tracks j
  unfold evaluateTrack sendSourceChange
  simp only
  split
  · exact written
  · exact send_keeps rangeLaw_ignoresControl written _

theorem evaluatePhase_keeps_rangeLaw {s : State} (h : RangeLaw s) : RangeLaw (evaluatePhase s) := by
  have evaluated : RangeLaw (evaluateTrack (evaluateTrack s 1) 0) :=
    evaluateTrack_keeps_rangeLaw (evaluateTrack_keeps_rangeLaw h 1) 0
  have ⟨_, ⟨_, tracks⟩, _⟩ := evaluated
  unfold evaluatePhase
  simp only
  split
  · exact rangeLaw_setEph evaluated ⟨wrap_range _, tracks⟩
  · exact evaluated

theorem roleTarget_keeps_rangeLaw (s : State) (a : Axis) (h : RangeLaw s) : RangeLaw (roleTarget s a).1 := by
  unfold roleTarget
  split_ifs
  · exact h
  · exact h
  · exact h
  · cases axisTrack a with
    | none => exact evaluatePhase_keeps_rangeLaw h
    | some k => exact evaluateTrack_keeps_rangeLaw h k

/-! ### The thermal monitor (R142 to R144) -/

theorem takeTw_legal (x : Int) : TwLegal (takeTw x) := by
  have range : 60 ≤ clamp x 60 115 ∧ clamp x 60 115 ≤ 115 := clamp_range (by decide)
  unfold TwLegal takeTw
  omega

theorem execSetThermalLimit_keeps_rangeLaw (l : Link) (p : List Byte) : Keeps RangeLaw (execSetThermalLimit l p) :=
  keeps_take rangeLaw_ignoresLinks fun s h => by
    have ⟨_, _, _, beforeSample⟩ := h
    split
    · exact h
    · exact needGrant_keeps h (rangeLaw_setThermal h ⟨takeTw_legal _, beforeSample⟩)

/-- After a sample there is a latest temperature, and TW stands (R142). -/
theorem execThermalSample_keeps_rangeLaw (celsius : Int) : Keeps RangeLaw (execThermalSample celsius) := by
  have warned {u : State} (hu : RangeLaw u) (old new : Bool) : RangeLaw (sendWarning u old new celsius) := by
    unfold sendWarning
    split
    · exact hu
    · exact send_keeps rangeLaw_ignoresControl hu _
  intro s t h ht
  have ⟨_, _, tw, _⟩ := h
  have sampled (warning mark : Bool) :
      RangeLaw (s.setThermal { s.thermal with warning := warning, latest := some celsius, overMark := mark }) :=
    rangeLaw_setThermal h ⟨tw, nofun⟩
  unfold execThermalSample at ht
  simp only at ht
  split at ht <;> cases ht
  · exact handCause_keeps rangeLaw_ignoresControl (send_keeps rangeLaw_ignoresControl (warned (sampled _ _) _ _) _) _
  · exact warned (sampled _ _) _ _

/-! ### Device reset (R19, R33, R85, R131) -/

theorem loadParams_inRange {record : List Byte} {ps : ParamSet} (h : loadParams record = some ps) :
    (-quarterTurn ≤ ps.latitude ∧ ps.latitude ≤ quarterTurn) ∧ (0 ≤ ps.longitude ∧ ps.longitude < turn) ∧
      TwLegal ps.tw := by
  unfold loadParams at h
  split at h
  next check =>
    cases h
    have longitude := beUnsigned_range (b := field record 565 4) (field_length (by omega))
    rw [show (256 : Int) ^ 4 = turn by decide] at longitude
    exact ⟨clamp_range (by decide), longitude, takeTw_legal _⟩
  next => cases h

/-- Start-up takes an angle or a threshold out of its range from no record (R85). -/
theorem startParams_inRange (record : List Byte) :
    let ps := startParams record
    (-quarterTurn ≤ ps.latitude ∧ ps.latitude ≤ quarterTurn) ∧ (0 ≤ ps.longitude ∧ ps.longitude < turn) ∧
      TwLegal ps.tw := by
  unfold startParams
  cases loaded : loadParams record with
  | some ps => exact loadParams_inRange loaded
  | none => exact ⟨by decide, by decide, by decide, by decide, by decide⟩

theorem reset_ephInRange : EphInRange State.reset.eph := by
  obtain ⟨_, _, _, phase, tracks⟩ := reset_angleLaw
  exact ⟨phase, tracks⟩

theorem powerOn_rangeLaw (s : State) : RangeLaw (powerOn s) := by
  obtain ⟨latitude, longitude, tw⟩ := startParams_inRange (resetStore s.store).record
  have frozen : 0 ≤ (0 : Int) ∧ 0 < turn := by decide
  exact ⟨⟨latitude, longitude, frozen⟩, reset_ephInRange, tw, fun _ => ⟨rfl, rfl⟩⟩

/-! ### Every command -/

theorem exec_keeps_rangeLaw (i : Instr) : Keeps RangeLaw (exec i) := by
  have control := rangeLaw_ignoresControl
  have links := rangeLaw_ignoresLinks
  have patches := rangeLaw_ignoresPatches
  have store := rangeLaw_ignoresStore
  cases i with
  | deviceReset trips switches => exact execDeviceReset_keeps control (fun s _ => powerOn_rangeLaw s) trips switches
  | clockStep => exact execClockStep_keeps control
  | profileUpdate a => exact execProfileUpdate_keeps control roleTarget_keeps_rangeLaw a
  | indexEdge a => exact execIndexEdge_keeps control.axes a
  | qualifiedTrip x => exact keeps_next fun _ h => tripSeen_keeps control h x
  | endSwitch a side => exact keeps_next fun _ h => switchActive_keeps control h a side
  | retryExpiry a line => exact execRetryExpiry_keeps control a line
  | tripWindowExpiry a => exact execTripWindowExpiry_keeps control.axes a
  | thermalSample celsius => exact execThermalSample_keeps_rangeLaw celsius
  | writeCompletion result => exact execWriteCompletion_keeps links store result
  | eraseCompletion result => exact execEraseCompletion_keeps links store result
  | checkSectorCovered => exact execCheckSectorCovered_keeps links store
  | saveErasePhaseEnd result => exact execSaveErasePhaseEnd_keeps links store result
  | saveWritePhaseEnd result => exact execSaveWritePhaseEnd_keeps links store result
  | frameArrival l k p => exact execFrameArrival_keeps links l k p
  | transmitStart l => exact execTransmitStart_keeps links l
  | reportEvent l => exact execReportEvent_keeps links l
  | guardExpiry l => exact execGuardExpiry_keeps control l
  | nonRequestKind l k p => exact execNonRequestKind_keeps links l k p
  | setRate l p => exact execSetRate_keeps control l p
  | setTime l p => exact execSetTime_keeps control l p
  | nudge l p => exact execNudge_keeps control l p
  | setSite l p => exact execSetSite_keeps_rangeLaw l p
  | coupleOff l p => exact execCoupleOff_keeps_rangeLaw l p
  | coupleOn l p => exact execCoupleOn_keeps_rangeLaw l p
  | readTrack l p => exact execReadTrack_keeps links l p
  | patchSet l p => exact execPatchSet_keeps links patches l p
  | patchEnable l p => exact execPatchEnable_keeps links patches l p
  | patchDisable l p => exact execPatchDisable_keeps links patches l p
  | patchRead l p => exact execPatchRead_keeps links l p
  | segmentWrite l p => exact execSegmentWrite_keeps links store l p
  | sectorErase l p => exact execSectorErase_keeps links store l p
  | eraseSuspend l p => exact execEraseSuspend_keeps links store l p
  | eraseResume l p => exact execEraseResume_keeps links store l p
  | sectorCheck l p => exact execSectorCheck_keeps links store l p
  | saveParameters l p => exact execSaveParameters_keeps links store l p
  | readSegment l p => exact execReadSegment_keeps links l p
  | protect l p => exact execProtect_keeps links store l p
  | track l p => exact execTrack_keeps links control.axes l p
  | move l p => exact execMove_keeps links control.axes l p
  | park l p => exact execPark_keeps links control.axes l p
  | setAxisParam l p => exact execSetAxisParam_keeps links control.axes l p
  | readAxis l p => exact execReadAxis_keeps links l p
  | home l p => exact execHome_keeps links control.axes l p
  | clearFault l p lines => exact execClearFault_keeps links control.axes l p lines
  | setThermalLimit l p => exact execSetThermalLimit_keeps_rangeLaw l p
  | hold l p => exact execHold_keeps control l p
  | resume l p => exact execResume_keeps control l p
  | snapshotRead l p => exact execSnapshotRead_keeps links l p
  | snapshotEdit l p => exact execSnapshotEdit_keeps control l p
  | watchSet l p => exact execWatchSet_keeps links control.watches l p
  | watchEnable l p => exact execWatchEnable_keeps links control.watches l p
  | watchDisable l p => exact execWatchDisable_keeps links control.watches l p
  | watchClear l p => exact execWatchClear_keeps links control.watches l p
  | watchStatus l p => exact execWatchStatus_keeps links l p
  | watchAcknowledge l p => exact execWatchAcknowledge_keeps links control.watches l p
  | grantRequest l p => exact execGrantRequest_keeps control l p
  | grantRelease l p => exact execGrantRelease_keeps control l p
  | grantSeize l p => exact execGrantSeize_keeps control l p
  | guardArm l p => exact execGuardArm_keeps links l p
  | reportInterval l p => exact execReportInterval_keeps links l p
  | readStatus l p => exact execReadStatus_keeps links l p
  | linkReset l p => exact execLinkReset_keeps control l p
  | characterReceived l char fault => exact execCharacterReceived_keeps links l char fault

/-- Settles O59: every command keeps the ranges, and so does a passing millisecond, which leaves the three blocks. -/
theorem angleAndThermalLawKept : Obligations.AngleAndThermalLawKept := by
  unfold Obligations.AngleAndThermalLawKept
  intro s t angles thermal ht
  have here : RangeLaw s := (rangeLaw_iff s).mpr ⟨angles, thermal⟩
  have after : RangeLaw t := keeps_step (fun _ _ hu => hu) (fun _ hu => hu) exec_keeps_rangeLaw s t here ht
  exact (rangeLaw_iff t).mp after

end Sys2Proof.Proofs
end

section
/-! PROOFS. The requests to star ball geometry in the statements' terms (R21, R25 to R29). -/

namespace Sys2Proof.Proofs

open Machine Safety

/-! ### SET SITE (R26) -/

theorem clampQuarter_eq (x : Int) : clamp x (-quarterTurn) quarterTurn = max (-2 ^ 30) (min x (2 ^ 30)) :=
  clamp_eq (by decide)

/-- A latitude is CLAMPED where it lies beyond a quarter turn (R26). -/
theorem clampQuarter_status (x : Int) :
    clampedIf (decide (clamp x (-quarterTurn) quarterTurn ≠ x)) = if x < -2 ^ 30 ∨ 2 ^ 30 < x then .clamped else .ok := by
  rw [clampedIf_ne, clampQuarter_eq]
  split_ifs with stands beyond beyond
  · omega
  · rfl
  · rfl
  · omega

theorem exec_setSite {s : State} {l : Link} {lat lon : Int} (h1 : -2 ^ 31 ≤ lat) (h2 : lat < 2 ^ 31)
    (ready : Ready s l 0x04 (beBytes 4 lat ++ beBytes 4 lon)) :
    let q := s.dropFrame l
    exec (.setSite l (beBytes 4 lat ++ beBytes 4 lon)) s = .next
      (if s.grant.holder ≠ some l then replied q l 0x04 .notGranted .none
       else replied
        (q.setBall { s.ball with latitude := clamp lat (-quarterTurn) quarterTurn, longitude := lon % 2 ^ 32 }) l 0x04
        (clampedIf (decide (clamp lat (-quarterTurn) quarterTurn ≠ lat))) .none) := by
  intro q
  show execSetSite l (beBytes 4 lat ++ beBytes 4 lon) s = _
  unfold execSetSite
  rw [take_replied (k := kSetSite) ready rfl, readSite_beBytes h1 h2]
  simp only
  by_cases granted : s.grant.holder = some l
  · rw [if_neg (not_not.mpr granted), needGrant_holder (s := s.dropFrame l) granted]
    rfl
  · rw [if_pos granted, needGrant_other (s := s.dropFrame l) granted]
    rfl

/-! ### COUPLE (R28, R29) -/

theorem diurnalCoupled_eq (t longitude : Int) :
    diurnalCoupled t longitude = (3346025510 + longitude + (t / 256) % 86164091 * 2 ^ 32 / 86164091) % 2 ^ 32 := by
  simp only [diurnalCoupled, gst0, siderealDay, turn, wrap, skyMs]
  norm_num

/-- A COUPLE frame whose argument is neither ON nor OFF (R25). -/
theorem readOnOff_none {b : Byte} (off : b ≠ 0) (on : b ≠ 1) : readOnOff [b] = none := by
  unfold readOnOff
  rw [beNat_singleton]
  split
  next zero => exact absurd (BitVec.eq_of_toNat_eq zero) off
  next one => exact absurd (BitVec.eq_of_toNat_eq one) on
  next => rfl

theorem handleCouple_granted {s : State} {l : Link} {p : List Byte} {on : Bool}
    (argument : ofLength 1 p (readOnOff p) = some on) (granted : s.grant.holder = some l) :
    handleCouple l p s = answer (couple s on) .ok := by
  unfold handleCouple
  rw [argument]
  exact needGrant_holder granted

theorem handleCouple_malformed {l : Link} {p : List Byte} (argument : ofLength 1 p (readOnOff p) = none) (s : State) :
    handleCouple l p s = answer s .malformed := by
  unfold handleCouple
  rw [argument]

theorem exec_coupleOff {s : State} {l : Link} {p : List Byte} (other : p ≠ [1]) {h : Handled} (ready : Ready s l 0x05 p)
    (handled : handleCouple l p (s.dropFrame l) = h) :
    exec (.coupleOff l p) s = .next (replied h.state l 0x05 h.status h.data) := by
  show execCoupleOff l p s = _
  unfold execCoupleOff
  rw [if_neg other]
  exact take_replied ready handled

theorem exec_coupleOn {s : State} {l : Link} {p : List Byte} (other : p ≠ [0]) {h : Handled} (ready : Ready s l 0x05 p)
    (handled : handleCouple l p (s.dropFrame l) = h) :
    exec (.coupleOn l p) s = .next (replied h.state l 0x05 h.status h.data) := by
  show execCoupleOn l p s = _
  unfold execCoupleOn
  rw [if_neg other]
  exact take_replied ready handled

/-- Settles O10: SET SITE by its clamp, COUPLE by its argument. -/
theorem siteAndCouplingRequests : Obligations.SiteAndCouplingRequests := by
  refine ⟨fun s l lat lon h1 h2 ready => ?_, fun s l => ⟨fun granted ready => ?_, fun granted ready => ?_, ?_⟩⟩
  · rw [exec_setSite h1 h2 ready, clampQuarter_status, clampQuarter_eq]
  · rw [exec_coupleOff (by decide) ready (handleCouple_granted (on := false) rfl granted), ← diurnalCoupled_eq]
    rfl
  · rw [exec_coupleOn (by decide) ready (handleCouple_granted (on := true) rfl granted)]
    rfl
  · intro b off on ready
    have argument : ofLength 1 [b] (readOnOff [b]) = none := readOnOff_none off on
    rw [exec_coupleOff (by simpa using on) ready (handleCouple_malformed argument _)]
    rfl

end Sys2Proof.Proofs
end

section
/-! PROOFS. The records of chapter 12 read back (R202, R204): a segment record gives its segment, and start-up loads from a
parameter record the parameter set that it was made from. -/

namespace Sys2Proof.Proofs

open Machine Safety

/-! ### The segment record (R202) -/

theorem segmentBytes_length (g : Segment) : (segmentBytes g).length = 26 := by simp [segmentBytes]

/-- A segment whose fields fit is well-formed (R35). -/
theorem segmentWf_of_fits {g : Segment} (fits : SegmentFits g) : segmentWf g = true := by
  obtain ⟨span, _, start, finish, _⟩ := fits
  simp [segmentWf, segmentBound, span, start, finish]

/-- A segment record read back (R34, R35, R202). -/
theorem readSegmentRecord_segmentBytes {g : Segment} (fits : SegmentFits g) :
    readSegmentRecord (segmentBytes g) = some g := by
  have wf := segmentWf_of_fits fits
  obtain ⟨span1, span2, start, finish, c01, c02, c11, c12, c21, c22, c31, c32⟩ := fits
  have track : readNo 13 (beBytes 1 (g.track.val : Int)) = some g.track := readNo_beBytes g.track (by decide)
  have startS : beSigned (beBytes 5 g.startS) = g.startS := beSigned_beBytes (by norm_num; omega) (by norm_num; omega)
  have spanS : beUnsigned (beBytes 4 g.spanS) = g.spanS := beUnsigned_beBytes (by omega) (by norm_num; omega)
  have c0 : beUnsigned (beBytes 4 g.c0) = g.c0 := beUnsigned_beBytes c01 (by norm_num; omega)
  have c1 : beSigned (beBytes 4 g.c1) = g.c1 := beSigned_beBytes (by norm_num; omega) (by norm_num; omega)
  have c2 : beSigned (beBytes 4 g.c2) = g.c2 := beSigned_beBytes (by norm_num; omega) (by norm_num; omega)
  have c3 : beSigned (beBytes 4 g.c3) = g.c3 := beSigned_beBytes (by norm_num; omega) (by norm_num; omega)
  simp [readSegmentRecord, segmentBytes, List.append_assoc, field_left, field_skip, field_all, track, startS, spanS, c0,
    c1, c2, c3, wf]

/-! ### The parameter record (R204) -/

theorem axisBlock_length (a : Axis) (q : AxisParams) : (axisBlock a q).length = 33 := by
  unfold axisBlock
  split <;> simp

/-- The blocks of all axes, one after another. -/
def axisBlocks (ps : ParamSet) : List Byte := (List.finRange 17).flatMap fun a => axisBlock a (ps.axes.get a)

theorem axisBlocks_length (ps : ParamSet) : (axisBlocks ps).length = 561 := by
  simp [axisBlocks, List.length_flatMap, axisBlock_length]

theorem paramBody_eq (ps : ParamSet) :
    paramBody ps = axisBlocks ps ++ (beBytes 4 ps.latitude ++ (beBytes 4 ps.longitude ++ beBytes 1 ps.tw)) := by
  simp [paramBody, axisBlocks]

theorem paramBody_length (ps : ParamSet) : (paramBody ps).length = 570 := by simp [paramBody_eq, axisBlocks_length]

theorem paramRecord_length (ps : ParamSet) : (paramRecord ps).length = 572 := by simp [paramRecord, paramBody_length]

/-- In a run of pieces of one length, the piece of number `i` stands at `i` times the length. -/
theorem field_flatMap {α : Type} {n : Nat} {f : α → List Byte} (len : ∀ x, (f x).length = n) (xs : List α) (tail : List Byte)
    (i : Nat) (h : i < xs.length) : field (xs.flatMap f ++ tail) (n * i) n = f xs[i] := by
  induction xs generalizing i with
  | nil => simp at h
  | cons x rest ih =>
    rw [List.flatMap_cons, List.append_assoc]
    cases i with
    | zero => exact field_left (len x)
    | succ i =>
      rw [field_skip (by rw [len, Nat.mul_succ]; omega), len, show n * (i + 1) - n = n * i by rw [Nat.mul_succ]; omega]
      exact ih i (by simpa using h)

theorem field_paramRecord_axis (ps : ParamSet) (a : Axis) :
    field (paramRecord ps) (33 * a.val) 33 = axisBlock a (ps.axes.get a) := by
  have piece := field_flatMap (f := fun a => axisBlock a (ps.axes.get a)) (fun a => axisBlock_length a _) (List.finRange 17)
    ((beBytes 4 ps.latitude ++ (beBytes 4 ps.longitude ++ beBytes 1 ps.tw)) ++ crcBytes (crcOf (paramBody ps))) a.val
    (by simp)
  rw [List.getElem_finRange] at piece
  rw [paramRecord, paramBody_eq, List.append_assoc]
  simpa [axisBlocks, paramBody_eq] using piece

theorem directionOf_code (d : Direction) : directionOf (beNat [d.code]) = d := by cases d <;> rfl

theorem filterOf_us (x : TripFilter) : filterOf (beNat (beBytes 1 x.us)) = x := by cases x <;> rfl

theorem recoveryOf_code (x : RecoveryMode) : recoveryOf (beNat [x.code]) = x := by cases x <;> rfl

/-- An axis block read back is the parameters it was made from, for each lies in its range (R85, R92, R204; log 18). -/
theorem readBlock_axisBlock {a : Axis} {q : AxisParams} (carried : ParamsCarried a q) :
    readBlock a (axisBlock a q) = q := by
  obtain ⟨⟨⟨gear1, gear2⟩, ⟨vmax1, vmax2⟩, ⟨amax1, amax2⟩, ⟨home1, home2⟩, ⟨wrap1, wrap2⟩, ⟨tolerance1, tolerance2⟩, rotary,
    travels⟩, noWrap, noTravel⟩ := carried
  have gear : beUnsigned (beBytes 3 q.gear) = q.gear := beUnsigned_beBytes (by omega) (by norm_num; omega)
  have vmax : beUnsigned (beBytes 4 q.vmax) = q.vmax := beUnsigned_beBytes (by omega) (by norm_num; omega)
  have amax : beUnsigned (beBytes 3 q.amax) = q.amax := beUnsigned_beBytes (by omega) (by norm_num; omega)
  have home : beUnsigned (beBytes 4 q.homeSpeed) = q.homeSpeed := beUnsigned_beBytes (by omega) (by norm_num; omega)
  have tolerance : beUnsigned (beBytes 4 q.tolerance) = q.tolerance := beUnsigned_beBytes (by omega) (by norm_num; omega)
  have signed {x : Int} (h1 : -2147483648 ≤ x) (h2 : x ≤ 2147483647) : beSigned (beBytes 4 x) = x :=
    beSigned_beBytes (by norm_num; omega) (by norm_num; omega)
  cases kind : bounded a with
  | true =>
    obtain ⟨min1, order, max2, index1, index2⟩ := travels kind
    have quarter : quarterTurn = 1073741824 := rfl
    have index : beSigned (beBytes 4 q.indexOffset) = q.indexOffset := signed (by omega) (by omega)
    have low : beSigned (beBytes 4 q.travelMin) = q.travelMin := signed (by omega) (by omega)
    have high : beSigned (beBytes 4 q.travelMax) = q.travelMax := signed (by omega) (by omega)
    simp [readBlock, axisBlock, kind, List.append_assoc, field_left, field_skip, field_head, field_tail, field_all, gear, vmax,
      amax, home, tolerance, index, low, high, directionOf_code, filterOf_us, recoveryOf_code, ← noWrap kind]
    rw [clamp_of_mem gear1 gear2, clamp_of_mem vmax1 vmax2, clamp_of_mem amax1 amax2, clamp_of_mem home1 home2,
      clamp_of_mem (x := q.indexOffset) (by omega) (by omega), clamp_of_mem min1 (by omega), clamp_of_mem (by omega) max2,
      clamp_of_mem tolerance1 tolerance2]
  | false =>
    obtain ⟨index1, index2⟩ := rotary kind
    have index : beSigned (beBytes 4 q.indexOffset) = q.indexOffset := signed (by omega) (by omega)
    have wraps : beUnsigned (beBytes 4 q.wrapLimit) = q.wrapLimit := beUnsigned_beBytes (by omega) (by norm_num; omega)
    simp [readBlock, axisBlock, kind, List.append_assoc, field_left, field_skip, field_head, field_tail, field_all, gear, vmax,
      amax, home, tolerance, index, wraps, directionOf_code, filterOf_us, recoveryOf_code, ← noTravel kind]
    rw [clamp_of_mem gear1 gear2, clamp_of_mem vmax1 vmax2, clamp_of_mem amax1 amax2, clamp_of_mem home1 home2,
      clamp_of_mem index1 index2, clamp_of_mem wrap1 wrap2, clamp_of_mem tolerance1 tolerance2]

theorem consistent_of_legal {a : Axis} {q : AxisParams} (legal : ParamsLegal a q) : consistent a q = true := by
  obtain ⟨_, _, _, _, _, _, _, travels⟩ := legal
  unfold consistent
  cases kind : bounded a with
  | false => rfl
  | true =>
    obtain ⟨_, order, _, index1, index2⟩ := travels kind
    simp [order, index1, index2]

theorem loadAxis_paramRecord {ps : ParamSet} {a : Axis} (carried : ParamsCarried a (ps.axes.get a)) :
    loadAxis (paramRecord ps) a = ps.axes.get a := by
  simp only [loadAxis, field_paramRecord_axis, readBlock_axisBlock carried]
  rw [if_pos (consistent_of_legal carried.1)]

/-- The site and TW stand behind the 561 bytes of the axis blocks. -/
theorem field_paramRecord_site (ps : ParamSet) :
    field (paramRecord ps) 561 4 = beBytes 4 ps.latitude ∧ field (paramRecord ps) 565 4 = beBytes 4 ps.longitude ∧
      field (paramRecord ps) 569 1 = beBytes 1 ps.tw := by
  have split : paramRecord ps = axisBlocks ps ++ (beBytes 4 ps.latitude ++ (beBytes 4 ps.longitude ++ (beBytes 1 ps.tw ++
      crcBytes (crcOf (paramBody ps))))) := by
    simp [paramRecord, paramBody_eq]
  rw [split]
  generalize crcBytes (crcOf (paramBody ps)) = tail
  simp [field_left, field_skip, axisBlocks_length]

theorem takeTw_of_legal {x : Int} (legal : TwLegal x) : takeTw x = x := by
  obtain ⟨low, high, five⟩ := legal
  rw [takeTw, clamp_of_mem low high]
  omega

/-- Start-up finds the check value of a parameter record matching (R85, R199). -/
theorem paramRecord_checks (ps : ParamSet) :
    (paramRecord ps).length = 572 ∧ crcBytes (crcOf ((paramRecord ps).take 570)) = (paramRecord ps).drop 570 := by
  refine ⟨paramRecord_length ps, ?_⟩
  rw [paramRecord, List.take_left' (paramBody_length ps), List.drop_left' (paramBody_length ps)]

theorem loadParams_paramRecord {ps : ParamSet} (legal : ParamSetLegal ps) : loadParams (paramRecord ps) = some ps := by
  obtain ⟨carried, lat1, lat2, lon1, lon2, tw⟩ := legal
  have axes : Table.build (loadAxis (paramRecord ps)) = ps.axes := Table.ext fun a => by
    rw [Table.get_build, loadAxis_paramRecord (carried a)]
  obtain ⟨latitude, longitude, threshold⟩ := field_paramRecord_site ps
  have quarter : quarterTurn = 1073741824 := rfl
  have lat : beSigned (beBytes 4 ps.latitude) = ps.latitude := beSigned_beBytes (by norm_num; omega) (by norm_num; omega)
  have lon : beUnsigned (beBytes 4 ps.longitude) = ps.longitude := beUnsigned_beBytes lon1 (by norm_num; exact lon2)
  have tw' : beSigned (beBytes 1 ps.tw) = ps.tw := beSigned_beBytes (by norm_num; omega) (by norm_num; omega)
  rw [loadParams, if_pos (paramRecord_checks ps), axes, latitude, longitude, threshold, lat, lon, tw', clamp_of_mem lat1 lat2,
    takeTw_of_legal tw]

/-- Settles O20: each field of a record is read from where its bytes were put. -/
theorem recordRoundTrips : Obligations.RecordRoundTrips :=
  ⟨fun ps legal => ⟨paramRecord_length ps, loadParams_paramRecord legal⟩,
    fun g fits => ⟨segmentBytes_length g, readSegmentRecord_segmentBytes fits⟩⟩

end Sys2Proof.Proofs
end

section
/-! PROOFS. What the commands that write star ball geometry, the evaluator or the thermal monitor keep of a predicate that
ignores the block they write (R25 to R29, R41, R48, R142 to R144). -/

namespace Sys2Proof.Proofs

open Machine Safety

variable {P : State → Prop}

theorem handleCouple_keeps (ball : Ignores P State.setBall) {s : State} (h : P s) (l : Link) (p : List Byte) :
    P (handleCouple l p s).state := by
  have coupled (on : Bool) : P (couple s on) := by
    unfold couple
    split_ifs
    · exact ball _ _ h
    · exact ball _ _ h
    · exact h
  unfold handleCouple
  split
  · exact h
  · exact needGrant_keeps h (coupled _)

variable (control : IgnoresControl P)
include control

theorem execCoupleOff_keeps (ball : Ignores P State.setBall) (l : Link) (p : List Byte) : Keeps P (execCoupleOff l p) := by
  intro s t h ht
  unfold execCoupleOff at ht
  split at ht
  · cases ht
    exact h
  · exact keeps_take control.links (fun _ hu => handleCouple_keeps ball hu l p) s t h ht

theorem execCoupleOn_keeps (ball : Ignores P State.setBall) (l : Link) (p : List Byte) : Keeps P (execCoupleOn l p) := by
  intro s t h ht
  unfold execCoupleOn at ht
  split at ht
  · cases ht
    exact h
  · exact keeps_take control.links (fun _ hu => handleCouple_keeps ball hu l p) s t h ht

theorem execSetSite_keeps (ball : Ignores P State.setBall) (l : Link) (p : List Byte) : Keeps P (execSetSite l p) :=
  keeps_take control.links fun s h => by
    split
    · exact h
    · exact needGrant_keeps h (ball _ _ h)

theorem evaluateTrack_keeps (eph : Ignores P State.setEph) {s : State} (h : P s) (k : Track) : P (evaluateTrack s k) := by
  unfold evaluateTrack sendSourceChange
  simp only
  split
  · exact eph _ _ h
  · exact send_keeps control (eph _ _ h) _

theorem evaluatePhase_keeps (eph : Ignores P State.setEph) {s : State} (h : P s) : P (evaluatePhase s) := by
  have evaluated : P (evaluateTrack (evaluateTrack s 1) 0) :=
    evaluateTrack_keeps control eph (evaluateTrack_keeps control eph h 1) 0
  rcases evaluatePhase_cases s with e | ⟨_, e⟩ <;> rw [e]
  · exact evaluated
  · exact eph _ _ evaluated

theorem roleTarget_keeps (eph : Ignores P State.setEph) (s : State) (a : Axis) (h : P s) : P (roleTarget s a).1 := by
  unfold roleTarget
  split_ifs
  · exact h
  · exact h
  · exact h
  · cases axisTrack a with
    | none => exact evaluatePhase_keeps control eph h
    | some k => exact evaluateTrack_keeps control eph h k

theorem execSetThermalLimit_keeps (thermal : Ignores P State.setThermal) (l : Link) (p : List Byte) :
    Keeps P (execSetThermalLimit l p) :=
  keeps_take control.links fun s h => by
    split
    · exact h
    · exact needGrant_keeps h (thermal _ _ h)

theorem execThermalSample_keeps (thermal : Ignores P State.setThermal) (celsius : Int) :
    Keeps P (execThermalSample celsius) := by
  have warned {u : State} (hu : P u) (old new : Bool) : P (sendWarning u old new celsius) := by
    unfold sendWarning
    split
    · exact hu
    · exact send_keeps control hu _
  intro s t h ht
  unfold execThermalSample at ht
  simp only at ht
  split at ht <;> cases ht
  · exact handCause_keeps control (send_keeps control (warned (thermal _ _ h) _ _) _) _
  · exact warned (thermal _ _ h) _ _

end Sys2Proof.Proofs
end

section
/-! PROOFS. The laws of the ephemeris store and of the patch table are kept by every step (R35, R56, R58, R67, R70, R73,
R204). Fifteen commands and device reset write one of the two blocks; the others leave both. -/

namespace Sys2Proof.Proofs

open Machine Safety

/-! ### The two laws by the block they read -/

/-- The slots in canonical form, and every FILLED one well-formed (R35, R67). -/
def SlotsLegal (m : List (Nat × SlotState)) : Prop :=
  SlotMap.wf m = true ∧ ∀ n g, SlotMap.read m n = .filled g → segmentWf g = true

/-- The law of the store, of its block. -/
def StoreLegal (x : Store) : Prop := SlotsLegal x.slots ∧ x.record.length = 572 ∧ OpLegal x

/-- The segment of a set patch entry is well-formed (R56). -/
def PatchLegal : PatchEntry → Prop
  | .unset => True
  | .disabled _ g | .enabled _ g => segmentWf g = true

/-- No two enabled entries name one slot (R58). -/
def PatchesApart (v : Vector PatchEntry 8) : Prop :=
  ∀ i j : PatchNo, ∀ n g h, v.get i = .enabled n g → v.get j = .enabled n h → i = j

/-- The law of the patch table, of its block. -/
def PatchesLegal (v : Vector PatchEntry 8) : Prop := (∀ i : PatchNo, PatchLegal (v.get i)) ∧ PatchesApart v

/-- Both laws at once, block by block. -/
def HeldLaw (s : State) : Prop := StoreLegal s.store ∧ PatchesLegal s.patches

theorem patchLegal_iff (e : PatchEntry) :
    PatchLegal e ↔ ∀ n g, e = .disabled n g ∨ e = .enabled n g → segmentWf g = true := by
  constructor
  · rintro h n g (rfl | rfl) <;> exact h
  · intro h
    cases e with
    | unset => trivial
    | disabled n g => exact h n g (.inl rfl)
    | enabled n g => exact h n g (.inr rfl)

theorem heldLaw_iff (s : State) : HeldLaw s ↔ StoreLaw s ∧ PatchLaw s := by
  simp only [HeldLaw, StoreLegal, SlotsLegal, PatchesLegal, PatchesApart, patchLegal_iff, StoreLaw, PatchLaw, and_assoc]

theorem heldLaw_setStore {s : State} (h : HeldLaw s) {x : Store} (legal : StoreLegal x) : HeldLaw (s.setStore x) :=
  ⟨legal, h.2⟩

theorem heldLaw_setPatches {s : State} (h : HeldLaw s) {v : Vector PatchEntry 8} (legal : PatchesLegal v) :
    HeldLaw (s.setPatches v) :=
  ⟨h.1, legal⟩

theorem heldLaw_ignoresControl : IgnoresControl HeldLaw where
  links _ _ h := h
  clock _ _ h := h
  axes _ _ h := h
  hold _ _ h := h
  watches _ _ h := h
  grant _ _ h := h

theorem heldLaw_ignoresLinks : IgnoresLinks HeldLaw := heldLaw_ignoresControl.links

theorem heldLaw_ignoresBall : Ignores HeldLaw State.setBall := fun _ _ h => h

theorem heldLaw_ignoresEph : Ignores HeldLaw State.setEph := fun _ _ h => h

theorem heldLaw_ignoresThermal : Ignores HeldLaw State.setThermal := fun _ _ h => h

/-! ### The slots (R67) -/

theorem slotsLegal_write {m : List (Nat × SlotState)} (h : SlotsLegal m) {n : Nat} (slot : n < 2016) {st : SlotState}
    (written : ∀ g, st = .filled g → segmentWf g = true) : SlotsLegal (SlotMap.write m n st) := by
  refine ⟨SlotMap.write_wf h.1 slot, fun k g filled => ?_⟩
  rw [SlotMap.read_write h.1] at filled
  split at filled
  · exact written g filled
  · exact h.2 k g filled

theorem slotsLegal_writeSector {m : List (Nat × SlotState)} (h : SlotsLegal m) (sec : SectorNo) {st : SlotState}
    (cleared : ∀ g, st ≠ .filled g) : SlotsLegal (SlotMap.writeSector m sec st) := by
  refine ⟨SlotMap.writeSector_wf h.1, fun k g filled => ?_⟩
  rw [SlotMap.read_writeSector h.1] at filled
  split at filled
  · exact absurd filled (cleared g)
  · exact h.2 k g filled

/-! ### What a payload's segment is (R35) -/

theorem readSegmentRecord_wf {b : List Byte} {g : Segment} (h : readSegmentRecord b = some g) : segmentWf g = true := by
  unfold readSegmentRecord at h
  split at h
  · cases h
  · simp only at h
    split at h <;> cases h
    assumption

theorem readSegmentWrite_wf {p : List Byte} {n : SlotNo} {g : Segment} (h : readSegmentWrite p = some (n, g)) :
    segmentWf g = true := by
  unfold readSegmentWrite ofLength at h
  split at h
  · split at h <;> cases h
    next _ record => exact readSegmentRecord_wf record
  · cases h

theorem readPatchSet_wf {p : List Byte} {i : PatchNo} {n : SlotNo} {g : Segment} (h : readPatchSet p = some (i, n, g)) :
    segmentWf g = true := by
  unfold readPatchSet ofLength at h
  split at h
  · split at h <;> cases h
    next _ _ record => exact readSegmentRecord_wf record
  · cases h

/-! ### The store's requests (R69, R73 to R84) -/

theorem storeLegal_withOp {x : Store} (h : StoreLegal x) {op : StoreOp} (legal : OpLegal (x.withOp op)) :
    StoreLegal (x.withOp op) :=
  ⟨h.1, h.2.1, legal⟩

/-- The law of the store state, read at the state that stands. -/
theorem StoreLegal.opLegal {x : Store} (h : StoreLegal x) {op : StoreOp} (here : x.op = op) : OpLegal (x.withOp op) := by
  subst here
  exact h.2.2

theorem writeEntered_some {op op' : StoreOp} {n : SlotNo} {g : Segment} (h : writeEntered op n g = some op') :
    (op = .idle ∧ op' = .writing n g) ∨
      ∃ sec left, op = .eraseSuspended sec left ∧ sectorOf n ≠ sec ∧ op' = .writingInSuspend n g sec left := by
  unfold writeEntered at h
  split at h
  · cases h
    exact .inl ⟨rfl, rfl⟩
  · split_ifs at h with same
    cases h
    exact .inr ⟨_, _, rfl, same, rfl⟩
  · cases h

/-- An accepted write is lawful: its segment well-formed, its slot EMPTY, its sector unprotected (R70, R73). -/
theorem opLegal_writeEntered {x : Store} (h : StoreLegal x) {n : SlotNo} {g : Segment} {op : StoreOp}
    (entered : writeEntered x.op n g = some op) (legal : WriteLegal x n g) : OpLegal (x.withOp op) := by
  rcases writeEntered_some entered with ⟨_, rfl⟩ | ⟨sec, left, suspended, apart, rfl⟩
  · exact legal
  · have ⟨time, _⟩ : left ≤ eraseTime ∧ x.deferred = false := h.opLegal suspended
    exact ⟨legal, apart, time⟩

theorem execSegmentWrite_keeps_heldLaw (l : Link) (p : List Byte) : Keeps HeldLaw (execSegmentWrite l p) :=
  keeps_take heldLaw_ignoresLinks fun s h => by
    split
    · exact h
    next n g read =>
    split
    · exact h
    next op entered =>
    split_ifs with protected_ filled
    · exact h
    · exact h
    · have legal : WriteLegal s.store n g := ⟨readSegmentWrite_wf read, not_not.mp filled, by simpa using protected_⟩
      exact heldLaw_setStore h (storeLegal_withOp h.1 (opLegal_writeEntered h.1 entered legal))

theorem execSectorErase_keeps_heldLaw (l : Link) (p : List Byte) : Keeps HeldLaw (execSectorErase l p) :=
  keeps_take heldLaw_ignoresLinks fun s h => by
    split
    · exact h
    split
    · exact h
    · split_ifs with protected_ busy
      · exact h
      · exact h
      · have undeferred : s.store.deferred = false := h.1.opLegal (not_not.mp busy)
        exact heldLaw_setStore h (storeLegal_withOp h.1 ⟨le_refl _, undeferred⟩)

theorem execEraseSuspend_keeps_heldLaw (l : Link) (p : List Byte) : Keeps HeldLaw (execEraseSuspend l p) :=
  keeps_take heldLaw_ignoresLinks fun s h => by
    split
    · exact h
    split
    next sec left erasing =>
      have legal : left ≤ eraseTime ∧ s.store.deferred = false := h.1.opLegal erasing
      exact heldLaw_setStore h (storeLegal_withOp h.1 legal)
    next => exact h

theorem execEraseResume_keeps_heldLaw (l : Link) (p : List Byte) : Keeps HeldLaw (execEraseResume l p) :=
  keeps_take heldLaw_ignoresLinks fun s h => by
    split
    · exact h
    split
    next sec left suspended =>
      have legal : left ≤ eraseTime ∧ s.store.deferred = false := h.1.opLegal suspended
      exact heldLaw_setStore h (storeLegal_withOp h.1 legal)
    next => exact h
    next => exact h

/-- The sectors that a check covers end at sector 63 at the latest (R81). -/
theorem check_range (first count : Nat) :
    checkFirst first ≤ 63 ∧ checkFirst first + checkCount first count ≤ 63 ∧ 0 ≤ checkCount first count := by
  unfold checkCount checkFirst
  omega

theorem execSectorCheck_keeps_heldLaw (l : Link) (p : List Byte) : Keeps HeldLaw (execSectorCheck l p) :=
  keeps_take heldLaw_ignoresLinks fun s h => by
    split
    · exact h
    next first count _ =>
    split_ifs with busy
    · exact h
    · have undeferred : s.store.deferred = false := h.1.opLegal (not_not.mp busy)
      obtain ⟨begins, ends, progress⟩ := check_range first count
      exact heldLaw_setStore h (storeLegal_withOp h.1 ⟨begins, ends, progress, undeferred⟩)

theorem execSaveParameters_keeps_heldLaw (l : Link) (p : List Byte) : Keeps HeldLaw (execSaveParameters l p) :=
  keeps_take heldLaw_ignoresLinks fun s h => by
    split
    · exact h
    refine needGrant_keeps h ?_
    split_ifs with busy
    · exact h
    · have undeferred : s.store.deferred = false := h.1.opLegal (not_not.mp busy)
      exact heldLaw_setStore h (storeLegal_withOp h.1 undeferred)

/-- The law of the store state where the state stands. It reads the slots and the mask for a write in flight alone, and the
deferred protection where there is none (R69, R70). -/
theorem opLegal_of_same {x y : Store} (h : OpLegal x) (op : y.op = x.op)
    (slots : ∀ n, writtenSlot x.op = some n → y.slots = x.slots)
    (mask : ∀ n, writtenSlot x.op = some n → x.mask.get (sectorOf n) = false → y.mask.get (sectorOf n) = false)
    (deferred : writtenSlot x.op = none → y.deferred = x.deferred) : OpLegal y := by
  have write {n : SlotNo} {g : Segment} (inFlight : writtenSlot x.op = some n) (legal : WriteLegal x n g) :
      WriteLegal y n g := by
    obtain ⟨wf, empty, unprotected⟩ := legal
    exact ⟨wf, (slots n inFlight).symm ▸ empty, mask n inFlight unprotected⟩
  unfold OpLegal at *
  rw [op]
  cases here : x.op with
  | writing n g =>
    rw [here] at h write
    exact write rfl h
  | writingInSuspend n g sec left =>
    rw [here] at h write
    exact ⟨write rfl h.1, h.2⟩
  | idle | erasing | eraseSuspended | checking | saving =>
    rw [here] at h deferred
    simpa only [deferred rfl] using h

/-- PROTECT leaves the sector of a write in flight unprotected: there ON is deferred (R69). -/
theorem storeLegal_protect {x : Store} (h : StoreLegal x) (sec : SectorNo) (on : Bool) : StoreLegal (x.protect sec on) := by
  obtain ⟨slots, record, op⟩ := h
  have legal {y : Store} (sameOp : y.op = x.op) (sameSlots : y.slots = x.slots) (sameRecord : y.record = x.record)
      (mask : ∀ n, writtenSlot x.op = some n → x.mask.get (sectorOf n) = false → y.mask.get (sectorOf n) = false)
      (deferred : writtenSlot x.op = none → y.deferred = x.deferred) : StoreLegal y :=
    ⟨sameSlots.symm ▸ slots, sameRecord.symm ▸ record, opLegal_of_same op sameOp (fun _ _ => sameSlots) mask deferred⟩
  have inFlight (into : (writtenSlot x.op).map sectorOf = some sec) (none : writtenSlot x.op = none) : False := by
    rw [none] at into
    cases into
  unfold Store.protect
  split_ifs with later into
  · rw [Bool.and_eq_true, decide_eq_true_eq] at later
    exact legal rfl rfl rfl (fun _ _ stands => stands) fun none => (inFlight later.2 none).elim
  · rw [decide_eq_true_eq] at into
    refine legal rfl rfl rfl (fun n _ stands => ?_) fun none => (inFlight into none).elim
    rw [Table.get_set, stands, ite_self]
  · refine legal rfl rfl rfl (fun n written stands => ?_) fun _ => rfl
    have apart : sectorOf n ≠ sec := by simpa [written] using into
    rw [Table.get_set_ne _ _ _ _ apart, stands]

theorem execProtect_keeps_heldLaw (l : Link) (p : List Byte) : Keeps HeldLaw (execProtect l p) :=
  keeps_take heldLaw_ignoresLinks fun s h => by
    split
    · exact h
    split
    · exact h
    · exact heldLaw_setStore h (storeLegal_protect h.1 _ _)

/-! ### The ends of the store's works (R74, R76, R82, R84) -/

/-- A write that ended leaves its slot FILLED or SPOILED and no protection deferred (R69, R74). -/
theorem storeLegal_writeEnd {x : Store} (h : StoreLegal x) {n : SlotNo} {g : Segment} {op : StoreOp} (result : CellResult)
    (wf : segmentWf g = true) (left : OpLegal { x with deferred := false, op := op })
    (ended : writtenSlot op = none) : StoreLegal (x.writeEnd n g op result) := by
  obtain ⟨slots, record, _⟩ := h
  refine ⟨slotsLegal_write slots n.isLt fun g' filled => ?_, record, ?_⟩
  · cases result <;> cases filled
    exact wf
  · refine opLegal_of_same left rfl ?_ ?_ fun _ => rfl <;> (rw [ended]; nofun)

theorem execWriteCompletion_keeps_heldLaw (result : CellResult) : Keeps HeldLaw (execWriteCompletion result) := by
  intro s t h ht
  unfold execWriteCompletion at ht
  split at ht <;> cases ht
  next n g writing =>
    have ⟨wf, _⟩ : WriteLegal s.store n g := h.1.opLegal writing
    exact heldLaw_ignoresLinks _ _ (heldLaw_setStore h (storeLegal_writeEnd h.1 result wf rfl rfl))
  next n g sec left writing =>
    have ⟨⟨wf, _⟩, _, time⟩ : WriteLegal s.store n g ∧ sectorOf n ≠ sec ∧ left ≤ eraseTime := h.1.opLegal writing
    exact heldLaw_ignoresLinks _ _ (heldLaw_setStore h (storeLegal_writeEnd h.1 result wf ⟨time, rfl⟩ rfl))
  next => exact h

theorem execEraseCompletion_keeps_heldLaw (result : CellResult) : Keeps HeldLaw (execEraseCompletion result) := by
  intro s t h ht
  unfold execEraseCompletion at ht
  split at ht <;> cases ht
  next sec erasing =>
    have ⟨_, undeferred⟩ : 0 ≤ eraseTime ∧ s.store.deferred = false := h.1.opLegal erasing
    have ⟨slots, record, _⟩ := h.1
    have erased {m : List (Nat × SlotState)} (legal : SlotsLegal m) :
        HeldLaw (s.setStore { s.store with slots := m, op := .idle }) :=
      heldLaw_setStore h ⟨legal, record, undeferred⟩
    exact heldLaw_ignoresLinks _ _ (erased (slotsLegal_writeSector slots sec (by cases result <;> nofun)))
  next => exact h

theorem execCheckSectorCovered_keeps_heldLaw : Keeps HeldLaw execCheckSectorCovered := by
  intro s t h ht
  unfold execCheckSectorCovered at ht
  split at ht
  next first count progress crc checking =>
    have ⟨begins, ends, _, undeferred⟩ :
        first ≤ 63 ∧ first + count ≤ 63 ∧ progress ≤ count ∧ s.store.deferred = false := h.1.opLegal checking
    simp only at ht
    split at ht <;> cases ht
    next more => exact heldLaw_setStore h (storeLegal_withOp h.1 ⟨begins, ends, more, undeferred⟩)
    next => exact heldLaw_ignoresLinks _ _ (heldLaw_setStore h (storeLegal_withOp h.1 undeferred))
  next =>
    cases ht
    exact h

theorem blankRecord_length : blankRecord.length = 572 := List.length_replicate

theorem execSaveErasePhaseEnd_keeps_heldLaw (result : CellResult) : Keeps HeldLaw (execSaveErasePhaseEnd result) := by
  intro s t h ht
  unfold execSaveErasePhaseEnd at ht
  split at ht
  next copy saving =>
    have undeferred : s.store.deferred = false := h.1.opLegal saving
    split at ht <;> cases ht
    · exact heldLaw_setStore h ⟨h.1.1, blankRecord_length, undeferred⟩
    · exact heldLaw_ignoresLinks _ _ (heldLaw_setStore h ⟨h.1.1, blankRecord_length, undeferred⟩)
  next =>
    cases ht
    exact h

theorem execSaveWritePhaseEnd_keeps_heldLaw (result : CellResult) : Keeps HeldLaw (execSaveWritePhaseEnd result) := by
  intro s t h ht
  unfold execSaveWritePhaseEnd at ht
  split at ht
  next copy saving =>
    have undeferred : s.store.deferred = false := h.1.opLegal saving
    split at ht <;> cases ht
    · exact heldLaw_ignoresLinks _ _ (heldLaw_setStore h ⟨h.1.1, paramRecord_length copy, undeferred⟩)
    · exact heldLaw_ignoresLinks _ _ (heldLaw_setStore h ⟨h.1.1, blankRecord_length, undeferred⟩)
  next =>
    cases ht
    exact h

/-- The erase running time falls within its bound (R70). -/
theorem passMillisecond_keeps_heldLaw (s : State) (h : HeldLaw s) : HeldLaw (passMillisecond s) := by
  have ⟨slots, record, op⟩ := h.1
  have elapsed : OpLegal (s.store.withOp s.store.op.elapse) := by
    cases here : s.store.op with
    | erasing sec left =>
      have ⟨time, undeferred⟩ : left ≤ eraseTime ∧ s.store.deferred = false := h.1.opLegal here
      exact ⟨(Nat.sub_le left 1).trans time, undeferred⟩
    | idle | eraseSuspended | writing | writingInSuspend | checking | saving => exact h.1.opLegal here
  exact heldLaw_setStore h ⟨slots, record, elapsed⟩

/-! ### The patch table (R59 to R62) -/

/-- The law of an entry, read at the condition that it has. -/
theorem PatchesLegal.entry {v : Vector PatchEntry 8} (h : PatchesLegal v) {i : PatchNo} {e : PatchEntry} (here : v.get i = e) :
    PatchLegal e := by
  subst here
  exact h.1 i

/-- An entry set to a lawful one keeps the table lawful, where no other enabled entry names the slot it enables (R58, R61). -/
theorem patchesLegal_set {v : Vector PatchEntry 8} (h : PatchesLegal v) (i : PatchNo) {e : PatchEntry} (legal : PatchLegal e)
    (apart : ∀ n g, e = .enabled n g → ∀ j g', v.get j ≠ .enabled n g') : PatchesLegal (v.set i.val e i.isLt) := by
  constructor
  · intro j
    rw [Table.get_set]
    split
    · exact legal
    · exact h.1 j
  · intro j k n g g' first second
    rw [Table.get_set] at first second
    split_ifs at first second with here there there
    · rw [here, there]
    · exact absurd second (apart n g first k g')
    · exact absurd first (apart n g' second j g)
    · exact h.2 j k n g g' first second

theorem enabledAt_of_get {v : Vector PatchEntry 8} {j : PatchNo} {n : SlotNo} {g : Segment} (h : v.get j = .enabled n g) :
    enabledAt v n = true := by
  refine List.any_eq_true.mpr ⟨v.get j, ?_, ?_⟩
  · exact Vector.mem_toList_iff.mpr (Vector.getElem_mem j.isLt)
  · rw [h]
    simp

theorem execPatchSet_keeps_heldLaw (l : Link) (p : List Byte) : Keeps HeldLaw (execPatchSet l p) :=
  keeps_take heldLaw_ignoresLinks fun s h => by
    split
    · exact h
    next n slot g read =>
    refine needGrant_keeps h ?_
    split
    · exact h
    · exact heldLaw_setPatches h (patchesLegal_set h.2 n (readPatchSet_wf read) nofun)

theorem execPatchEnable_keeps_heldLaw (l : Link) (p : List Byte) : Keeps HeldLaw (execPatchEnable l p) :=
  keeps_take heldLaw_ignoresLinks fun s h => by
    split
    · exact h
    next n _ =>
    refine needGrant_keeps h ?_
    split
    · exact h
    · exact h
    next slot g disabled =>
    split_ifs with duplicate
    · exact h
    · have wf : segmentWf g = true := h.2.entry disabled
      refine heldLaw_setPatches h (patchesLegal_set h.2 n wf ?_)
      rintro _ _ ⟨⟩ j g' other
      exact duplicate (enabledAt_of_get other)

theorem execPatchDisable_keeps_heldLaw (l : Link) (p : List Byte) : Keeps HeldLaw (execPatchDisable l p) :=
  keeps_take heldLaw_ignoresLinks fun s h => by
    split
    · exact h
    next n _ =>
    refine needGrant_keeps h ?_
    split
    next slot g enabled =>
      have wf : segmentWf g = true := h.2.entry enabled
      exact heldLaw_setPatches h (patchesLegal_set h.2 n wf nofun)
    next => exact h

/-! ### Device reset (R57, R69, R87) -/

/-- What an abandoned work leaves in the slots is SPOILED (R87). -/
theorem slotsLegal_abandoned {m : List (Nat × SlotState)} (h : SlotsLegal m) (op : StoreOp) :
    SlotsLegal (abandonedSlots m op) := by
  unfold abandonedSlots
  have spoiled : ∀ g, SlotState.spoiled ≠ .filled g := nofun
  have sector (sec : SectorNo) : SlotsLegal (SlotMap.writeSector m sec .spoiled) := slotsLegal_writeSector h sec spoiled
  have slot {m : List (Nat × SlotState)} (h : SlotsLegal m) (n : SlotNo) : SlotsLegal (SlotMap.write m n.val .spoiled) :=
    slotsLegal_write h n.isLt fun g e => absurd e (spoiled g)
  cases op with
  | erasing sec left => exact sector sec
  | eraseSuspended sec left => exact sector sec
  | writing n g => exact slot h n
  | writingInSuspend n g sec left => exact slot (sector sec) n
  | idle | checking | saving => exact h

theorem abandonedRecord_length {record : List Byte} (h : record.length = 572) (op : StoreOp) :
    (abandonedRecord record op).length = 572 := by
  unfold abandonedRecord
  split
  · exact blankRecord_length
  · exact h

theorem powerOn_keeps_heldLaw (s : State) (h : HeldLaw s) : HeldLaw (powerOn s) := by
  obtain ⟨slots, record, _⟩ := h.1
  have fresh : PatchesLegal State.reset.patches := (heldLaw_iff State.reset).mpr ⟨reset_storeLaw, reset_patchLaw⟩ |>.2
  exact ⟨⟨slotsLegal_abandoned slots _, abandonedRecord_length record _, rfl⟩, fresh⟩

/-! ### Every command -/

theorem exec_keeps_heldLaw (i : Instr) : Keeps HeldLaw (exec i) := by
  have control := heldLaw_ignoresControl
  have links := heldLaw_ignoresLinks
  have ball := heldLaw_ignoresBall
  have thermal := heldLaw_ignoresThermal
  cases i with
  | deviceReset trips switches => exact execDeviceReset_keeps control powerOn_keeps_heldLaw trips switches
  | clockStep => exact execClockStep_keeps control
  | profileUpdate a => exact execProfileUpdate_keeps control (roleTarget_keeps control heldLaw_ignoresEph) a
  | indexEdge a => exact execIndexEdge_keeps control.axes a
  | qualifiedTrip x => exact keeps_next fun _ h => tripSeen_keeps control h x
  | endSwitch a side => exact keeps_next fun _ h => switchActive_keeps control h a side
  | retryExpiry a line => exact execRetryExpiry_keeps control a line
  | tripWindowExpiry a => exact execTripWindowExpiry_keeps control.axes a
  | thermalSample celsius => exact execThermalSample_keeps control thermal celsius
  | writeCompletion result => exact execWriteCompletion_keeps_heldLaw result
  | eraseCompletion result => exact execEraseCompletion_keeps_heldLaw result
  | checkSectorCovered => exact execCheckSectorCovered_keeps_heldLaw
  | saveErasePhaseEnd result => exact execSaveErasePhaseEnd_keeps_heldLaw result
  | saveWritePhaseEnd result => exact execSaveWritePhaseEnd_keeps_heldLaw result
  | frameArrival l k p => exact execFrameArrival_keeps links l k p
  | transmitStart l => exact execTransmitStart_keeps links l
  | reportEvent l => exact execReportEvent_keeps links l
  | guardExpiry l => exact execGuardExpiry_keeps control l
  | nonRequestKind l k p => exact execNonRequestKind_keeps links l k p
  | setRate l p => exact execSetRate_keeps control l p
  | setTime l p => exact execSetTime_keeps control l p
  | nudge l p => exact execNudge_keeps control l p
  | setSite l p => exact execSetSite_keeps control ball l p
  | coupleOff l p => exact execCoupleOff_keeps control ball l p
  | coupleOn l p => exact execCoupleOn_keeps control ball l p
  | readTrack l p => exact execReadTrack_keeps links l p
  | patchSet l p => exact execPatchSet_keeps_heldLaw l p
  | patchEnable l p => exact execPatchEnable_keeps_heldLaw l p
  | patchDisable l p => exact execPatchDisable_keeps_heldLaw l p
  | patchRead l p => exact execPatchRead_keeps links l p
  | segmentWrite l p => exact execSegmentWrite_keeps_heldLaw l p
  | sectorErase l p => exact execSectorErase_keeps_heldLaw l p
  | eraseSuspend l p => exact execEraseSuspend_keeps_heldLaw l p
  | eraseResume l p => exact execEraseResume_keeps_heldLaw l p
  | sectorCheck l p => exact execSectorCheck_keeps_heldLaw l p
  | saveParameters l p => exact execSaveParameters_keeps_heldLaw l p
  | readSegment l p => exact execReadSegment_keeps links l p
  | protect l p => exact execProtect_keeps_heldLaw l p
  | track l p => exact execTrack_keeps links control.axes l p
  | move l p => exact execMove_keeps links control.axes l p
  | park l p => exact execPark_keeps links control.axes l p
  | setAxisParam l p => exact execSetAxisParam_keeps links control.axes l p
  | readAxis l p => exact execReadAxis_keeps links l p
  | home l p => exact execHome_keeps links control.axes l p
  | clearFault l p lines => exact execClearFault_keeps links control.axes l p lines
  | setThermalLimit l p => exact execSetThermalLimit_keeps control thermal l p
  | hold l p => exact execHold_keeps control l p
  | resume l p => exact execResume_keeps control l p
  | snapshotRead l p => exact execSnapshotRead_keeps links l p
  | snapshotEdit l p => exact execSnapshotEdit_keeps control l p
  | watchSet l p => exact execWatchSet_keeps links control.watches l p
  | watchEnable l p => exact execWatchEnable_keeps links control.watches l p
  | watchDisable l p => exact execWatchDisable_keeps links control.watches l p
  | watchClear l p => exact execWatchClear_keeps links control.watches l p
  | watchStatus l p => exact execWatchStatus_keeps links l p
  | watchAcknowledge l p => exact execWatchAcknowledge_keeps links control.watches l p
  | grantRequest l p => exact execGrantRequest_keeps control l p
  | grantRelease l p => exact execGrantRelease_keeps control l p
  | grantSeize l p => exact execGrantSeize_keeps control l p
  | guardArm l p => exact execGuardArm_keeps links l p
  | reportInterval l p => exact execReportInterval_keeps links l p
  | readStatus l p => exact execReadStatus_keeps links l p
  | linkReset l p => exact execLinkReset_keeps control l p
  | characterReceived l char fault => exact execCharacterReceived_keeps links l char fault

/-- Settles O58: every command keeps the two laws, and so does a passing millisecond, in which only an erase's time falls. -/
theorem storeAndPatchLawKept : Obligations.StoreAndPatchLawKept := by
  unfold Obligations.StoreAndPatchLawKept
  intro s t store patches ht
  have here : HeldLaw s := (heldLaw_iff s).mpr ⟨store, patches⟩
  have after : HeldLaw t := keeps_step (fun _ _ hu => hu) passMillisecond_keeps_heldLaw exec_keeps_heldLaw s t here ht
  exact (heldLaw_iff t).mp after

end Sys2Proof.Proofs
end

section
/-! PROOFS. The evaluator's selection in the terms of the statements (R36 to R40): conditions of a slot, candidates, and the
covering candidate of lowest rank. -/

namespace Sys2Proof.Proofs

open Machine Safety

/-! ### The condition of a slot (R37, R67, R71) -/

theorem inBankB_iff (n : Nat) : inBankB (slotSector n) = true ↔ 1024 ≤ n := by
  unfold inBankB slotSector
  rw [decide_eq_true_eq]
  omega

theorem inBankB_sector (sec : SectorNo) (n : Nat) :
    (inBankB sec.val == inBankB (slotSector n)) = true ↔ SameBank (32 * sec.val) n := by
  unfold inBankB slotSector SameBank
  rw [beq_iff_eq, decide_eq_decide]
  omega

theorem inBankB_slot (m : SlotNo) (n : Nat) :
    (inBankB (slotSector m.val) == inBankB (slotSector n)) = true ↔ SameBank m.val n := by
  unfold inBankB slotSector SameBank
  rw [beq_iff_eq, decide_eq_decide]
  omega

theorem slotAbsent_iff (op : StoreOp) (n : Nat) : slotAbsent op n = true ↔ SlotAway op n := by
  cases op with
  | eraseSuspended sec left => exact beq_iff_eq
  | writingInSuspend m g sec left => exact beq_iff_eq
  | idle | erasing | writing | checking | saving => exact ⟨nofun, nofun⟩

theorem slotUnreadable_iff (op : StoreOp) (n : Nat) : slotUnreadable op n = true ↔ SlotHidden op n := by
  cases op with
  | erasing sec left => exact inBankB_sector sec n
  | writing m g => exact inBankB_slot m n
  | writingInSuspend m g sec left =>
    have bank := inBankB_slot m n
    simp only [slotUnreadable, slotAbsent, suspendedSector, bankBusy, SlotHidden, slotSector, Bool.and_eq_true,
      Bool.not_eq_true', beq_eq_false_iff_ne] at bank ⊢
    rw [bank, and_comm]
  | saving phase copy => exact inBankB_iff n
  | idle | checking => exact ⟨nofun, nofun⟩
  | eraseSuspended sec left => simp [slotUnreadable, bankBusy, SlotHidden]

theorem slotReadable_iff (op : StoreOp) (n : Nat) : slotReadable op n = true ↔ ¬ SlotHidden op n ∧ ¬ SlotAway op n := by
  rw [← slotAbsent_iff, ← slotUnreadable_iff, slotReadable]
  simp [and_comm]

/-! ### Candidates (R38, R39) -/

theorem mem_patches {v : Vector PatchEntry 8} {e : PatchEntry} : e ∈ v.toList ↔ ∃ i : PatchNo, v.get i = e := by
  rw [Vector.mem_toList_iff, Vector.mem_iff_getElem]
  exact ⟨fun ⟨i, h, e⟩ => ⟨⟨i, h⟩, e⟩, fun ⟨i, e⟩ => ⟨i.val, i.isLt, e⟩⟩

theorem stoodIn_iff (s : State) (n : Nat) : stoodIn s.patches n = true ↔ PatchStands s n := by
  unfold stoodIn PatchStands
  rw [List.any_eq_true]
  constructor
  · rintro ⟨e, member, named⟩
    obtain ⟨i, here⟩ := mem_patches.mp member
    cases e with
    | enabled m g => exact ⟨i, m, g, here, beq_iff_eq.mp named⟩
    | unset | disabled => cases named
  · rintro ⟨i, m, g, here, named⟩
    exact ⟨_, mem_patches.mpr ⟨i, here⟩, beq_iff_eq.mpr named⟩

theorem mem_patchCandidates {v : Vector PatchEntry 8} {k : Track} {c : Candidate} :
    c ∈ patchCandidates v k ↔ ∃ i n g, v.get i = .enabled n g ∧ g.track = k ∧ c = ⟨n.val, g, true⟩ := by
  unfold patchCandidates
  rw [List.mem_filterMap]
  constructor
  · rintro ⟨e, member, made⟩
    obtain ⟨i, here⟩ := mem_patches.mp member
    split at made
    · split_ifs at made with track
      cases made
      exact ⟨i, _, _, here, track, rfl⟩
    · cases made
  · rintro ⟨i, n, g, here, track, rfl⟩
    exact ⟨_, mem_patches.mpr ⟨i, here⟩, if_pos track⟩

/-- In the canonical form the slots listed are those that do not read EMPTY. -/
theorem mem_slots_from {m : List (Nat × SlotState)} {low n : Nat} {st : SlotState} (h : SlotMap.wfFrom low m = true) :
    (n, st) ∈ m ↔ SlotMap.read m n = st ∧ st ≠ .empty := by
  induction m generalizing low with
  | nil =>
    constructor
    · nofun
    · rintro ⟨rfl, filled⟩
      exact absurd rfl filled
  | cons x rest ih =>
    obtain ⟨k, old⟩ := x
    simp only [SlotMap.wfFrom, Bool.and_eq_true, decide_eq_true_eq] at h
    obtain ⟨⟨_, filled⟩, later⟩ := h
    rw [List.mem_cons, ih later, SlotMap.read]
    split
    next same =>
      subst same
      have below := SlotMap.read_below later (Nat.lt_succ_self k)
      constructor
      · rintro (here | ⟨beyond, other⟩)
        · cases here
          exact ⟨rfl, filled⟩
        · exact absurd (beyond.symm.trans below) other
      · rintro ⟨rfl, _⟩
        exact .inl rfl
    next apart =>
      constructor
      · rintro (here | beyond)
        · cases here
          exact absurd rfl apart
        · exact beyond
      · exact .inr

theorem mem_slotCandidates {s : State} (wf : SlotMap.wf s.store.slots = true) {k : Track} {c : Candidate} :
    c ∈ slotCandidates s k ↔ ∃ n g, SlotMap.read s.store.slots n = .filled g ∧ g.track = k ∧
      ¬ SlotHidden s.store.op n ∧ ¬ SlotAway s.store.op n ∧ ¬ PatchStands s n ∧ c = ⟨n, g, false⟩ := by
  unfold slotCandidates
  rw [List.mem_filterMap]
  constructor
  · rintro ⟨⟨n, st⟩, member, made⟩
    split at made
    next g filled =>
      subst filled
      split_ifs at made with chosen
      cases made
      obtain ⟨track, readable, free⟩ := chosen
      rw [slotReadable_iff] at readable
      rw [stoodIn_iff] at free
      exact ⟨n, g, ((mem_slots_from wf).mp member).1, track, readable.1, readable.2, free, rfl⟩
    next => cases made
  · rintro ⟨n, g, filled, track, shown, present, free, rfl⟩
    refine ⟨(n, .filled g), (mem_slots_from wf).mpr ⟨filled, nofun⟩, if_pos ⟨track, ?_, ?_⟩⟩
    · exact (slotReadable_iff _ _).mpr ⟨shown, present⟩
    · rwa [stoodIn_iff]

theorem isCandidate_iff {s : State} (wf : SlotMap.wf s.store.slots = true) {k : Track} {c : Candidate} :
    c ∈ patchCandidates s.patches k ++ slotCandidates s k ↔ IsCandidate s k c := by
  rw [List.mem_append, mem_patchCandidates, mem_slotCandidates wf]
  rfl

/-! ### The lowest of the covering candidates (R36, R40) -/

theorem covers_iff (g : Segment) (tms : Int) : covers g tms = true ↔ CoversAt g tms := by
  simp [covers, CoversAt]

theorem lowest_none {candidates : List Candidate} (h : lowest candidates = none) : candidates = [] := by
  cases candidates with
  | nil => rfl
  | cons x rest =>
    unfold lowest at h
    split at h
    · cases h
    · split at h <;> cases h

theorem lowest_le {candidates : List Candidate} {c d : Candidate} (h : lowest candidates = some c) (member : d ∈ candidates) :
    c.rank ≤ d.rank := by
  induction candidates generalizing c with
  | nil => cases member
  | cons x rest ih =>
    unfold lowest at h
    split at h
    next alone =>
      cases h
      rw [lowest_none alone] at member
      rw [List.mem_singleton.mp member]
    next y found =>
      have ranks : c.rank ≤ x.rank ∧ c.rank ≤ y.rank := by
        split_ifs at h <;> cases h <;> omega
      rcases List.mem_cons.mp member with rfl | later
      · exact ranks.1
      · exact ranks.2.trans (ih found later)

/-- Settles O11: the winner is the lowest of the candidates that cover. -/
theorem lowestCoveringCandidateWins : Obligations.LowestCoveringCandidateWins := by
  intro s k tms wf
  have covering (c : Candidate) :
      c ∈ (patchCandidates s.patches k ++ slotCandidates s k).filter (fun c => covers c.segment tms) ↔
        IsCandidate s k c ∧ CoversAt c.segment tms := by
    rw [List.mem_filter, isCandidate_iff wf, covers_iff]
  constructor
  · intro c won
    obtain ⟨candidate, covered⟩ := (covering c).mp (lowest_mem won)
    exact ⟨candidate, covered, fun d other coversToo => lowest_le won ((covering d).mpr ⟨other, coversToo⟩)⟩
  · rintro ⟨c, candidate, covered⟩
    cases won : winner s k tms with
    | some d => exact ⟨d, rfl⟩
    | none =>
      have member := (covering c).mpr ⟨candidate, covered⟩
      rw [lowest_none won] at member
      cases member

end Sys2Proof.Proofs
end

section
/-! PROOFS. What an evaluation writes and sends, in the terms of the statements (R40 to R50), and the phase value (R48). -/

namespace Sys2Proof.Proofs

open Machine Safety

/-! ### The value of a segment (R43 to R45) -/

theorem latitudeTrack_iff (k : Track) : latitudeTrack k = true ↔ k.val ∈ [2, 4, 6, 8, 10, 12] := List.contains_iff_mem

theorem rnd_eq_roundStep (x : Int) : rnd x = roundStep x := rfl

/-- c0 enters signed on a latitude track: it is the residue nearest 0 (R34, R44). -/
theorem startValue_eq {g : Segment} (low : 0 ≤ g.c0) (high : g.c0 < 2 ^ 32) :
    startValue g = if g.track.val ∈ [2, 4, 6, 8, 10, 12] then Int.bmod g.c0 (2 ^ 32) else g.c0 := by
  have residue : Int.bmod g.c0 (2 ^ 32) = if 2147483648 ≤ g.c0 then g.c0 - turn else g.c0 := by
    rw [Int.bmod_def]
    unfold turn
    norm_num
    split_ifs <;> omega
  unfold startValue
  by_cases latitude : g.track.val ∈ [2, 4, 6, 8, 10, 12]
  · simp only [latitudeTrack_iff, latitude, true_and, if_true, residue]
  · simp only [latitudeTrack_iff, latitude, false_and, if_false]

theorem finish_eq (k : Track) (v : Int) :
    finish k v = if k.val ∈ [2, 4, 6, 8, 10, 12] then max (-2 ^ 31) (min v (2 ^ 31 - 1)) else v % 2 ^ 32 := by
  unfold finish
  simp only [latitudeTrack_iff, saturate32, wrap, clamp_eq (x := v) (lo := -2147483648) (hi := 2147483647) (by decide)]
  rfl

theorem segmentValue_eq {g : Segment} (fits : SegmentFits g) (tms : Int) : segmentValue g tms = segmentAngle g tms := by
  obtain ⟨_, _, _, _, low, high, _⟩ := fits
  simp only [segmentValue, horner, segmentAngle, finish_eq, startValue_eq low high, rnd_eq_roundStep]
  rfl

/-! ### The note of an unreadable slot (R39, R41) -/

theorem mem_bankSlots (bankB : Bool) (n : Nat) : n ∈ bankSlots bankB ↔ n < 2016 ∧ inBankB (slotSector n) = bankB := by
  have side := inBankB_iff n
  cases bankB with
  | false =>
    rw [← Bool.not_eq_true, side]
    simp only [bankSlots, Bool.false_eq_true, if_false, List.mem_range'_1]
    omega
  | true =>
    rw [side]
    simp only [bankSlots, if_true, List.mem_range'_1]
    omega

theorem unreadableNoted_iff (s : State) :
    unreadableNoted s = true ↔ ∃ n < 2016, SlotHidden s.store.op n ∧ ¬ PatchStands s n := by
  have noted (n : Nat) : (slotUnreadable s.store.op n && !stoodIn s.patches n) = true ↔
      SlotHidden s.store.op n ∧ ¬ PatchStands s n := by
    rw [Bool.and_eq_true, slotUnreadable_iff, Bool.not_eq_true', ← Bool.not_eq_true, stoodIn_iff]
  unfold unreadableNoted
  rw [List.any_eq_true]
  constructor
  · rintro ⟨bank, _, found⟩
    obtain ⟨_, inBank⟩ := Bool.and_eq_true_iff.mp found
    obtain ⟨n, member, here⟩ := List.any_eq_true.mp inBank
    exact ⟨n, ((mem_bankSlots bank n).mp member).1, (noted n).mp here⟩
  · rintro ⟨n, slot, hidden, free⟩
    have busy : bankBusy s.store.op (inBankB (slotSector n)) = true :=
      (Bool.and_eq_true_iff.mp ((slotUnreadable_iff _ _).mpr hidden)).2
    refine ⟨inBankB (slotSector n), by cases inBankB (slotSector n) <;> simp, Bool.and_eq_true_iff.mpr ⟨busy, ?_⟩⟩
    exact List.any_eq_true.mpr ⟨n, (mem_bankSlots _ n).mpr ⟨slot, rfl⟩, (noted n).mpr ⟨hidden, free⟩⟩

/-! ### One evaluation (R40, R41, R50) -/

/-- A track record written, and SOURCE CHANGE sent where its source state differs (R50). -/
def recordWritten (s : State) (k : Track) (r : TrackRecord) : State :=
  let s1 := s.setEph { s.eph with tracks := s.eph.tracks.set k.val r k.isLt }
  if Source.state (s.eph.tracks.get k).source = Source.state r.source then s1
  else s1.send (.sourceChange k (Source.state r.source))

theorem evaluateTrack_eq (s : State) (k : Track) :
    evaluateTrack s k = recordWritten s k (evaluation s k (s.clock.t / 256)) := rfl

theorem recordWritten_eph (s : State) (k : Track) (r : TrackRecord) :
    (recordWritten s k r).eph = { s.eph with tracks := s.eph.tracks.set k.val r k.isLt } := by
  unfold recordWritten
  simp only
  split <;> rfl

/-- An evaluation of one track leaves the record of every other. -/
theorem evaluateTrack_track_ne (s : State) {j k : Track} (other : j ≠ k) :
    (evaluateTrack s k).eph.tracks.get j = s.eph.tracks.get j := by
  rw [evaluateTrack_eq, recordWritten_eph]
  exact Table.get_set_ne _ k j _ other

theorem evaluation_won {s : State} {k : Track} {tms : Int} {c : Candidate} (won : winner s k tms = some c) :
    evaluation s k tms =
      { last := segmentValue c.segment tms
        source := if c.patched then .patched (slotOfRank c.rank) else .covered (slotOfRank c.rank) } := by
  unfold evaluation
  rw [won]

theorem evaluation_lost {s : State} {k : Track} {tms : Int} (lost : winner s k tms = none) :
    evaluation s k tms =
      { last := (s.eph.tracks.get k).last, source := if unreadableNoted s then .stale else .uncovered } := by
  unfold evaluation
  rw [lost]

theorem found_iff (x : Source) : Source.found x = true ↔ ∃ n, x = .covered n ∨ x = .patched n := by
  cases x with
  | covered n => exact ⟨fun _ => ⟨n, .inl rfl⟩, fun _ => rfl⟩
  | patched n => exact ⟨fun _ => ⟨n, .inr rfl⟩, fun _ => rfl⟩
  | stale | uncovered => exact ⟨nofun, by rintro ⟨n, e | e⟩ <;> cases e⟩

/-- Settles O12: an evaluation by the winner, by the note of an unreadable slot without one; the phase value by its two
evaluations. -/
theorem evaluationWritesRecordAndPhase : Obligations.EvaluationWritesRecordAndPhase := by
  refine ⟨fun s k => ⟨?_, ?_, ?_⟩, fun s => ⟨?_, ?_, ?_⟩⟩
  · rintro c n won _ _ fits rfl
    rw [evaluateTrack_eq, evaluation_won won, segmentValue_eq fits]
    rfl
  · intro lost noted
    rw [evaluateTrack_eq, evaluation_lost lost, if_pos ((unreadableNoted_iff s).mpr noted)]
    rfl
  · intro lost patched
    have quiet : ¬ unreadableNoted s = true := by
      rw [unreadableNoted_iff]
      rintro ⟨n, slot, hidden, free⟩
      exact free (patched n slot hidden)
    rw [evaluateTrack_eq, evaluation_lost lost, if_neg quiet]
    rfl
  · intro moon sun
    unfold evaluatePhase
    simp only
    rw [if_pos (Bool.and_eq_true_iff.mpr ⟨(found_iff _).mpr moon, (found_iff _).mpr sun⟩)]
    rfl
  · intro missing
    unfold evaluatePhase
    simp only
    rw [if_neg]
    rw [Bool.and_eq_true, found_iff, found_iff]
    exact missing
  · exact evaluateTrack_track_ne _ (by decide)

end Sys2Proof.Proofs
end

section
/-! PROOFS. The requests that read and change nothing (R51, R63, R116, R159, R175). -/

namespace Sys2Proof.Proofs

open Machine Safety

theorem exec_readTrack {s : State} {l : Link} {k : Track} (ready : Ready s l 0x06 (beBytes 1 k.val)) :
    exec (.readTrack l (beBytes 1 k.val)) s =
      .next (replied (s.dropFrame l) l 0x06 .ok (.track k (s.eph.tracks.get k))) := by
  show execReadTrack l (beBytes 1 k.val) s = _
  unfold execReadTrack
  rw [take_replied (k := kReadTrack) ready rfl, readTrackNo_beBytes]
  rfl

theorem exec_patchRead {s : State} {l : Link} {n : PatchNo} (ready : Ready s l 0x0A (beBytes 1 n.val)) :
    exec (.patchRead l (beBytes 1 n.val)) s = .next (replied (s.dropFrame l) l 0x0A .ok (.patch n (s.patches.get n))) := by
  show execPatchRead l (beBytes 1 n.val) s = _
  unfold execPatchRead
  rw [take_replied (k := kPatchRead) ready rfl, readPatchNo_beBytes]
  rfl

theorem exec_readAxis {s : State} {l : Link} {a : Axis} (ready : Ready s l 0x24 (beBytes 1 a.val)) :
    exec (.readAxis l (beBytes 1 a.val)) s =
      .next (replied (s.dropFrame l) l 0x24 .ok (.axis a (readingOf s.thermal.warning (s.axis a)))) := by
  show execReadAxis l (beBytes 1 a.val) s = _
  unfold execReadAxis
  rw [take_replied (k := kReadAxis) ready rfl, readAxisNo_beBytes]
  rfl

theorem exec_snapshotRead {s : State} {l : Link} (ready : Ready s l 0x32 []) :
    exec (.snapshotRead l []) s = .next (replied (s.dropFrame l) l 0x32 .ok (.snapshot s.holdCtl)) := by
  show execSnapshotRead l [] s = _
  unfold execSnapshotRead
  rw [take_replied (k := kSnapshotRead) ready rfl]
  rfl

theorem exec_watchStatus {s : State} {l : Link} (ready : Ready s l 0x3C []) :
    exec (.watchStatus l []) s = .next (replied (s.dropFrame l) l 0x3C .ok (.watches s.watches)) := by
  show execWatchStatus l [] s = _
  unfold execWatchStatus
  rw [take_replied (k := kWatchStatus) ready rfl]
  rfl

/-! The fields that are present in one mode alone (R89, R116). -/

theorem readingOf_destination (warning : Bool) (c : AxisChannel) (x : Int) :
    (readingOf warning c).destination = some x ↔ c.mode = .move x := by
  unfold readingOf
  cases c.mode <;> simp

theorem readingOf_next (warning : Bool) (c : AxisChannel) (n : NextMode) :
    (readingOf warning c).next = some n ↔ c.mode = .stopping n := by
  unfold readingOf
  cases c.mode <;> simp

theorem readingOf_cause (warning : Bool) (c : AxisChannel) (k : FaultCause) :
    (readingOf warning c).cause = some k ↔ c.mode = .fault k := by
  unfold readingOf
  cases c.mode <;> simp

theorem readingOf_phase (warning : Bool) (c : AxisChannel) (f : HomingPhase) :
    (readingOf warning c).phase = some f ↔ ∃ h, c.mode = .homing h ∧ h.phase = f := by
  unfold readingOf
  cases c.mode <;> simp

/-- Settles O31, read by read. -/
theorem readsCarryWhatStands : Obligations.ReadsCarryWhatStands := by
  refine fun s l => ⟨fun k ready => exec_readTrack ready, fun n ready => exec_patchRead ready, fun a ready => ?_,
    fun ready => exec_snapshotRead ready, fun ready => exec_watchStatus ready⟩
  exact ⟨readingOf s.thermal.warning (s.axis a), exec_readAxis ready, rfl, rfl, rfl, rfl, rfl, rfl, rfl, rfl,
    readingOf_destination _ _, readingOf_next _ _, readingOf_cause _ _, readingOf_phase _ _⟩

end Sys2Proof.Proofs
end

section
/-! PROOFS. The requests that write the patch table, in every condition of the entry that they name (R59 to R62). -/

namespace Sys2Proof.Proofs

open Machine Safety

/-- An ENABLED entry among the eight names the slot (R61). -/
theorem enabledAt_iff {v : Vector PatchEntry 8} {m : SlotNo} : enabledAt v m = true ↔ ∃ j h, v.get j = .enabled m h := by
  constructor
  · intro named
    obtain ⟨e, member, here⟩ := List.any_eq_true.mp named
    obtain ⟨j, at_j⟩ := mem_patches.mp member
    cases e with
    | enabled k h => exact ⟨j, h, of_decide_eq_true here ▸ at_j⟩
    | unset | disabled => cases here
  · rintro ⟨j, h, at_j⟩
    exact enabledAt_of_get at_j

/-- The payload of PATCH SET read back (R59). -/
theorem readPatchSet_beBytes (n : PatchNo) (slot : SlotNo) {g : Segment} (fits : SegmentFits g) :
    readPatchSet (beBytes 1 n.val ++ beBytes 2 slot.val ++ segmentBytes g) = some (n, slot, g) := by
  have entry : readNo 8 (beBytes 1 (n.val : Int)) = some n := readNo_beBytes n (by decide)
  have index : readNo 2016 (beBytes 2 (slot.val : Int)) = some slot := readNo_beBytes slot (by decide)
  have record := readSegmentRecord_segmentBytes fits
  rw [readPatchSet, ofLength_eq (by simp [segmentBytes_length])]
  simp [List.append_assoc, field_left, field_skip, field_all, segmentBytes_length, entry, index, record]

/-! ### The entry at the taking

What the table makes of a request from the holder, by the condition of the entry. -/

/-- PATCH SET's entry (R60). -/
def setEntry (n : PatchNo) (slot : SlotNo) (g : Segment) (s : State) : Handled :=
  match s.patches.get n with
  | .enabled _ _ => answer s .enabled
  | _ => answer (s.setPatch n (.disabled slot g)) .ok

/-- PATCH ENABLE's entry (R61). -/
def enableEntry (n : PatchNo) (s : State) : Handled :=
  match s.patches.get n with
  | .unset => answer s .empty
  | .enabled _ _ => answer s .ok
  | .disabled m g => if enabledAt s.patches m then answer s .duplicate else answer (s.setPatch n (.enabled m g)) .ok

/-- PATCH DISABLE's entry (R62). -/
def disableEntry (n : PatchNo) (s : State) : Handled :=
  match s.patches.get n with
  | .enabled m g => answer (s.setPatch n (.disabled m g)) .ok
  | _ => answer s .ok

section Entry

variable {s : State} {n : PatchNo} {m : SlotNo} {g : Segment}

theorem setEntry_enabled {slot : SlotNo} {k : Segment} (here : s.patches.get n = .enabled m g) :
    setEntry n slot k s = answer s .enabled := by rw [setEntry, here]

theorem setEntry_other {slot : SlotNo} {k : Segment} (here : ∀ m h, s.patches.get n ≠ .enabled m h) :
    setEntry n slot k s = answer (s.setPatch n (.disabled slot k)) .ok := by
  unfold setEntry
  cases entry : s.patches.get n with
  | enabled m h => exact absurd entry (here m h)
  | unset | disabled => rfl

theorem enableEntry_unset (here : s.patches.get n = .unset) : enableEntry n s = answer s .empty := by
  rw [enableEntry, here]

theorem enableEntry_enabled (here : s.patches.get n = .enabled m g) : enableEntry n s = answer s .ok := by
  rw [enableEntry, here]

theorem enableEntry_duplicate (here : s.patches.get n = .disabled m g) (named : ∃ j h, s.patches.get j = .enabled m h) :
    enableEntry n s = answer s .duplicate := by
  rw [enableEntry, here]
  exact if_pos (enabledAt_iff.mpr named)

theorem enableEntry_free (here : s.patches.get n = .disabled m g) (free : ∀ j h, s.patches.get j ≠ .enabled m h) :
    enableEntry n s = answer (s.setPatch n (.enabled m g)) .ok := by
  have unnamed : ¬ enabledAt s.patches m = true := by
    rw [enabledAt_iff]
    rintro ⟨j, h, at_j⟩
    exact free j h at_j
  rw [enableEntry, here]
  exact if_neg unnamed

theorem disableEntry_enabled (here : s.patches.get n = .enabled m g) :
    disableEntry n s = answer (s.setPatch n (.disabled m g)) .ok := by
  rw [disableEntry, here]

theorem disableEntry_other (here : ∀ m g, s.patches.get n ≠ .enabled m g) : disableEntry n s = answer s .ok := by
  unfold disableEntry
  cases entry : s.patches.get n with
  | enabled m g => exact absurd entry (here m g)
  | unset | disabled => rfl

end Entry

/-! ### The requests taken (R59, R180) -/

section Taken

variable {s : State} {l : Link} {n : PatchNo} {h : Handled}

theorem exec_patchSet {slot : SlotNo} {g : Segment} (fits : SegmentFits g)
    (ready : Ready s l 0x07 (beBytes 1 n.val ++ beBytes 2 slot.val ++ segmentBytes g))
    (handled : needGrant (s.dropFrame l) l (setEntry n slot g (s.dropFrame l)) = h) :
    exec (.patchSet l (beBytes 1 n.val ++ beBytes 2 slot.val ++ segmentBytes g)) s =
      .next (replied h.state l 0x07 h.status h.data) := by
  show execPatchSet l _ s = _
  unfold execPatchSet
  refine take_replied ready ?_
  rw [readPatchSet_beBytes n slot fits]
  exact handled

theorem exec_patchEnable (granted : s.grant.holder = some l) (ready : Ready s l 0x08 (beBytes 1 n.val))
    (handled : enableEntry n (s.dropFrame l) = h) :
    exec (.patchEnable l (beBytes 1 n.val)) s = .next (replied h.state l 0x08 h.status h.data) := by
  show execPatchEnable l _ s = _
  unfold execPatchEnable
  refine take_replied ready ?_
  rw [readPatchNo_beBytes]
  exact (needGrant_holder (s := s.dropFrame l) granted).trans handled

theorem exec_patchDisable (granted : s.grant.holder = some l) (ready : Ready s l 0x09 (beBytes 1 n.val))
    (handled : disableEntry n (s.dropFrame l) = h) :
    exec (.patchDisable l (beBytes 1 n.val)) s = .next (replied h.state l 0x09 h.status h.data) := by
  show execPatchDisable l _ s = _
  unfold execPatchDisable
  refine take_replied ready ?_
  rw [readPatchNo_beBytes]
  exact (needGrant_holder (s := s.dropFrame l) granted).trans handled

end Taken

/-- Settles O13, by the condition of the entry that the request names. -/
theorem patchEntriesSetAndEnabled : Obligations.PatchEntriesSetAndEnabled := by
  constructor
  · intro s l n slot g fits p ready q
    refine ⟨fun other => ?_, fun granted m h here => ?_, fun granted here => ?_⟩
    · exact exec_patchSet fits ready (needGrant_other (s := q) other)
    · exact exec_patchSet fits ready ((needGrant_holder (s := q) granted).trans (setEntry_enabled here))
    · exact exec_patchSet fits ready ((needGrant_holder (s := q) granted).trans (setEntry_other here))
  · intro s l n granted q
    refine ⟨fun ready => ⟨fun here => ?_, fun m g here => ?_, fun m g here => ⟨fun named => ?_, fun free => ?_⟩⟩,
      fun ready => ⟨fun m g here => ?_, fun here => ?_⟩⟩
    · exact exec_patchEnable granted ready (enableEntry_unset here)
    · exact exec_patchEnable granted ready (enableEntry_enabled here)
    · exact exec_patchEnable granted ready (enableEntry_duplicate here named)
    · exact exec_patchEnable granted ready (enableEntry_free here free)
    · exact exec_patchDisable granted ready (disableEntry_enabled here)
    · exact exec_patchDisable granted ready (disableEntry_other here)

end Sys2Proof.Proofs
end

section
/-! PROOFS. One real millisecond on an empty queue: which remaining times fall, and what stands (R70, R131, R189, R194). -/

namespace Sys2Proof.Proofs

open Machine Safety

theorem elapse_op_falls {op : StoreOp} {sec : SectorNo} {left : Nat} (runs : op = .erasing sec left) :
    op.elapse = .erasing sec (left - 1) := by
  subst runs
  rfl

theorem elapse_op_stands {op : StoreOp} (rests : ∀ sec left, op ≠ .erasing sec left) : op.elapse = op := by
  cases op with
  | erasing sec left => exact absurd rfl (rests sec left)
  | idle | eraseSuspended | writing | writingInSuspend | checking | saving => rfl

theorem elapse_mode_falls {c : AxisChannel} {prior : PriorMode} {left : Nat} (runs : c.mode = .recovering prior left) :
    c.elapse.mode = .recovering prior (left - 1) := by
  simp only [AxisChannel.elapse, runs]

theorem elapse_mode_stands {c : AxisChannel} (rests : ∀ prior left, c.mode ≠ .recovering prior left) :
    c.elapse.mode = c.mode := by
  unfold AxisChannel.elapse
  cases here : c.mode with
  | recovering prior left => exact absurd here (rests prior left)
  | parked | track | move | homing | stopping | held | fault => rfl

theorem elapse_guard_falls {x : LinkState} {i : GuardInterval} {act : GuardAction} {left : Nat}
    (runs : x.guard = .running i act left) : x.elapse.guard = .running i act (left - 1) := by
  simp only [LinkState.elapse, runs]

theorem elapse_guard_stands {x : LinkState} (rests : ∀ i act left, x.guard ≠ .running i act left) :
    x.elapse.guard = x.guard := by
  unfold LinkState.elapse
  cases here : x.guard with
  | running i act left => exact absurd here (rests i act left)
  | disarmed | expired => rfl

theorem elapse_reporting_falls {x : LinkState} {i : ReportEvery} {left : Nat} (runs : x.reporting = .every i left) :
    x.elapse.reporting = .every i (left - 1) := by
  simp only [LinkState.elapse, runs]

theorem elapse_reporting_off {x : LinkState} (off : x.reporting = .off) : x.elapse.reporting = .off := by
  simp only [LinkState.elapse, off]

theorem passMillisecond_axis (s : State) (a : Axis) : (passMillisecond s).axis a = (s.axis a).elapse :=
  Table.get_map AxisChannel.elapse s.axes a

theorem passMillisecond_link (s : State) (l : Link) : (passMillisecond s).link l = (s.link l).elapse :=
  Links.get_map LinkState.elapse s.links l

theorem step_empty {s : State} (empty : s.pending = []) : step s = .next (passMillisecond s) := by
  unfold step
  rw [empty]

/-- Settles O2, timer by timer. -/
theorem emptyQueueLetsTimersFall : Obligations.EmptyQueueLetsTimersFall := by
  intro s empty
  refine ⟨passMillisecond s, step_empty empty, rfl, rfl, rfl, rfl, rfl, rfl, rfl, rfl, empty, ?store, fun a => ?axis,
    fun l => ?link⟩
  case store => exact ⟨s.store.op.elapse, rfl, fun _ _ => elapse_op_falls, elapse_op_stands⟩
  case axis =>
    exact ⟨(s.axis a).elapse.mode, (s.axis a).elapse.tripWindow, passMillisecond_axis s a, fun _ _ => elapse_mode_falls,
      elapse_mode_stands, rfl⟩
  case link =>
    exact ⟨(s.link l).elapse.guard, (s.link l).elapse.reporting, passMillisecond_link s l, fun _ _ _ => elapse_guard_falls,
      elapse_guard_stands, fun _ _ => elapse_reporting_falls, elapse_reporting_off⟩

end Sys2Proof.Proofs
end

section
/-! PROOFS. SEGMENT WRITE and the completion of its write, in the terms of the statements (R69, R73, R74, R78). -/

namespace Sys2Proof.Proofs

open Machine Safety

/-- The payload of SEGMENT WRITE read back (R73). -/
theorem readSegmentWrite_beBytes (n : SlotNo) {g : Segment} (fits : SegmentFits g) :
    readSegmentWrite (beBytes 2 n.val ++ segmentBytes g) = some (n, g) := by
  have index : readNo 2016 (beBytes 2 (n.val : Int)) = some n := readNo_beBytes n (by decide)
  have record := readSegmentRecord_segmentBytes fits
  rw [readSegmentWrite, ofLength_eq (by simp [segmentBytes_length])]
  simp [field_left, field_skip, field_all, segmentBytes_length, index, record]

/-! ### The store state that a write enters (R73) -/

theorem writeEntered_beside {n : SlotNo} {sec : SectorNo} (g : Segment) (left : Nat) (other : sec ≠ sectorOf n) :
    writeEntered (.eraseSuspended sec left) n g = some (.writingInSuspend n g sec left) :=
  if_neg (Ne.symm other)

theorem writeEntered_inside (n : SlotNo) (g : Segment) (left : Nat) :
    writeEntered (.eraseSuspended (sectorOf n) left) n g = none :=
  if_pos rfl

theorem writeEntered_busy {op : StoreOp} (n : SlotNo) (g : Segment) (works : op ≠ .idle)
    (running : ∀ sec left, op ≠ .eraseSuspended sec left) : writeEntered op n g = none := by
  cases op with
  | idle => exact absurd rfl works
  | eraseSuspended sec left => exact absurd rfl (running sec left)
  | erasing | writing | writingInSuspend | checking | saving => rfl

section Write

variable {s : State} {l : Link} {n : SlotNo} {g : Segment}

theorem exec_segmentWrite_busy (fits : SegmentFits g) (ready : Ready s l 0x10 (beBytes 2 n.val ++ segmentBytes g))
    (refused : writeEntered s.store.op n g = none) :
    exec (.segmentWrite l (beBytes 2 n.val ++ segmentBytes g)) s = .next (replied (s.dropFrame l) l 0x10 .busy .none) := by
  show execSegmentWrite l _ s = _
  unfold execSegmentWrite
  refine take_replied (h := answer (s.dropFrame l) .busy) ready ?_
  rw [readSegmentWrite_beBytes n fits]
  dsimp only
  rw [State.dropFrame_store, refused]

theorem exec_segmentWrite_entered (fits : SegmentFits g) (ready : Ready s l 0x10 (beBytes 2 n.val ++ segmentBytes g))
    {op : StoreOp} (entered : writeEntered s.store.op n g = some op) :
    exec (.segmentWrite l (beBytes 2 n.val ++ segmentBytes g)) s = .next
      (if s.store.mask.get (sectorOf n) then replied (s.dropFrame l) l 0x10 .protected_ .none
       else if SlotMap.read s.store.slots n.val ≠ .empty then replied (s.dropFrame l) l 0x10 .notEmpty .none
       else replied ((s.dropFrame l).setStore { s.store with op := op }) l 0x10 .ok .none) := by
  show execSegmentWrite l _ s = _
  unfold execSegmentWrite
  rw [take_replied (k := kSegmentWrite) ready rfl, readSegmentWrite_beBytes n fits]
  dsimp only
  rw [State.dropFrame_store, entered]
  split_ifs <;> rfl

/-! ### The completion of a write (R74, R78) -/

/-- A slot of the store after a write of slot `n` ended. -/
theorem writeEnd_slot {x : Store} (wf : SlotMap.wf x.slots = true) (g : Segment) (op : StoreOp) (result : CellResult) (k : Nat) :
    SlotMap.read (x.writeEnd n g op result).slots k =
      if k = n.val then (match result with | .ok => .filled g | .failed => .spoiled) else SlotMap.read x.slots k :=
  SlotMap.read_write wf

/-- The deferred protection of the sector written is applied at the end of the write, and no other flag changes (R69). -/
theorem writeEnd_mask (x : Store) (g : Segment) (op : StoreOp) (result : CellResult) (sec : SectorNo) :
    (x.writeEnd n g op result).mask.get sec = (x.mask.get sec || (x.deferred && decide (sec.val = n.val / 32))) := by
  have same : decide (sec.val = n.val / 32) = decide (sec = sectorOf n) :=
    decide_eq_decide.mpr (Fin.ext_iff (b := sectorOf n)).symm
  rw [same]
  unfold Store.writeEnd
  cases x.deferred with
  | false => simp
  | true => by_cases here : sec = sectorOf n <;> simp [Table.get_set, here]

theorem exec_writeCompletion {result : CellResult} (writes : s.store.op = .writing n g) :
    exec (.writeCompletion result) s =
      .next ((s.setStore (s.store.writeEnd n g .idle result)).send (.storeDone (.write n) result)) := by
  show execWriteCompletion result s = _
  rw [execWriteCompletion, writes]

theorem exec_writeCompletion_inSuspend {result : CellResult} {sec : SectorNo} {left : Nat}
    (writes : s.store.op = .writingInSuspend n g sec left) :
    exec (.writeCompletion result) s =
      .next ((s.setStore (s.store.writeEnd n g (.eraseSuspended sec left) result)).send (.storeDone (.write n) result)) := by
  show execWriteCompletion result s = _
  rw [execWriteCompletion, writes]

end Write

/-- Settles O14: the acceptance by the store state it meets, the completion by the write it ends. -/
theorem segmentWriteAcceptedAndCompleted : Obligations.SegmentWriteAcceptedAndCompleted := by
  constructor
  · intro s l n g fits p ready q sec rest
    refine ⟨rfl, fun idle => ?_, fun e left suspended other => ?_, fun left suspended => ?_, fun works running => ?_⟩
    · exact exec_segmentWrite_entered fits ready (by rw [idle]; rfl)
    · exact exec_segmentWrite_entered fits ready (by rw [suspended, writeEntered_beside g left other])
    · exact exec_segmentWrite_busy fits ready (by rw [suspended, writeEntered_inside])
    · exact exec_segmentWrite_busy fits ready (writeEntered_busy n g works running)
  · intro s n g result wf done
    refine ⟨fun writes => ?_, fun e left writes => ?_⟩
    · exact ⟨_, _, exec_writeCompletion writes, writeEnd_slot wf g .idle result, writeEnd_mask s.store g .idle result⟩
    · exact ⟨_, _, exec_writeCompletion_inSuspend writes, writeEnd_slot wf g (.eraseSuspended e left) result,
        writeEnd_mask s.store g (.eraseSuspended e left) result⟩

end Sys2Proof.Proofs
end

section
/-! PROOFS. The life of an erase: SECTOR ERASE, ERASE SUSPEND and ERASE RESUME in every store state, and the completion
(R75 to R79). -/

namespace Sys2Proof.Proofs

open Machine Safety

theorem readSector_above {b : Byte} (above : 63 < b.toNat) : readSector [b] = none := by
  rw [readSector, ofLength_eq (by rfl), readNo_none (by rw [beNat_singleton]; omega)]

section Requests

variable {s : State} {l : Link}

/-! ### SECTOR ERASE (R75) -/

theorem exec_sectorErase_malformed {b : Byte} (above : 63 < b.toNat) (ready : Ready s l 0x11 [b]) :
    exec (.sectorErase l [b]) s = .next (replied (s.dropFrame l) l 0x11 .malformed .none) := by
  show execSectorErase l _ s = _
  unfold execSectorErase
  refine take_replied (h := answer (s.dropFrame l) .malformed) ready ?_
  rw [readSector_above above]

theorem exec_sectorErase_params {n : Fin 64} (last : n.val = 63) (ready : Ready s l 0x11 (beBytes 1 n.val)) :
    exec (.sectorErase l (beBytes 1 n.val)) s = .next (replied (s.dropFrame l) l 0x11 .protected_ .none) := by
  have none63 : slotSectorOf n = none := dif_neg (by omega)
  show execSectorErase l _ s = _
  unfold execSectorErase
  refine take_replied (h := answer (s.dropFrame l) .protected_) ready ?_
  rw [readSector_beBytes]
  dsimp only
  rw [none63]

theorem slotSectorOf_eq {n : Fin 64} {sec : SectorNo} (same : sec.val = n.val) : slotSectorOf n = some sec := by
  have slots : n.val < 63 := same ▸ sec.isLt
  rw [slotSectorOf, dif_pos slots]
  exact congrArg some (Fin.ext same.symm)

theorem exec_sectorErase_slots {n : Fin 64} {sec : SectorNo} (same : sec.val = n.val)
    (ready : Ready s l 0x11 (beBytes 1 n.val)) :
    exec (.sectorErase l (beBytes 1 n.val)) s = .next
      (if s.store.mask.get sec then replied (s.dropFrame l) l 0x11 .protected_ .none
       else if s.store.op ≠ .idle then replied (s.dropFrame l) l 0x11 .busy .none
       else replied ((s.dropFrame l).setStore { s.store with op := .erasing sec 150 }) l 0x11 .ok .none) := by
  show execSectorErase l _ s = _
  unfold execSectorErase
  rw [take_replied (k := kSectorErase) ready rfl, readSector_beBytes]
  dsimp only
  rw [slotSectorOf_eq same]
  dsimp only
  rw [State.dropFrame_store]
  split_ifs <;> rfl

/-! ### ERASE SUSPEND and ERASE RESUME (R77, R79)

What the store makes of each, by the store state at the taking. -/

def suspendErase (s : State) : Handled :=
  match s.store.op with
  | .erasing sec left => answer (s.setStore (s.store.withOp (.eraseSuspended sec left))) .ok
  | _ => answer s .noOperation

def resumeErase (s : State) : Handled :=
  match s.store.op with
  | .eraseSuspended sec left => answer (s.setStore (s.store.withOp (.erasing sec left))) .ok
  | .writingInSuspend _ _ _ _ => answer s .busy
  | _ => answer s .noOperation

theorem exec_eraseSuspend {h : Handled} (ready : Ready s l 0x12 []) (handled : suspendErase (s.dropFrame l) = h) :
    exec (.eraseSuspend l []) s = .next (replied h.state l 0x12 h.status h.data) :=
  take_replied ready handled

theorem exec_eraseResume {h : Handled} (ready : Ready s l 0x13 []) (handled : resumeErase (s.dropFrame l) = h) :
    exec (.eraseResume l []) s = .next (replied h.state l 0x13 h.status h.data) :=
  take_replied ready handled

theorem suspendErase_erasing {sec : SectorNo} {left : Nat} (erases : s.store.op = .erasing sec left) :
    suspendErase s = answer (s.setStore { s.store with op := .eraseSuspended sec left }) .ok := by
  rw [suspendErase, erases]
  rfl

theorem suspendErase_other (other : ∀ sec left, s.store.op ≠ .erasing sec left) :
    suspendErase s = answer s .noOperation := by
  unfold suspendErase
  cases here : s.store.op with
  | erasing sec left => exact absurd here (other sec left)
  | idle | eraseSuspended | writing | writingInSuspend | checking | saving => rfl

theorem resumeErase_suspended {sec : SectorNo} {left : Nat} (suspended : s.store.op = .eraseSuspended sec left) :
    resumeErase s = answer (s.setStore { s.store with op := .erasing sec left }) .ok := by
  rw [resumeErase, suspended]
  rfl

theorem resumeErase_writing {n : SlotNo} {g : Segment} {sec : SectorNo} {left : Nat}
    (writes : s.store.op = .writingInSuspend n g sec left) : resumeErase s = answer s .busy := by
  rw [resumeErase, writes]

theorem resumeErase_other (running : ∀ sec left, s.store.op ≠ .eraseSuspended sec left)
    (quiet : ∀ n g sec left, s.store.op ≠ .writingInSuspend n g sec left) : resumeErase s = answer s .noOperation := by
  unfold resumeErase
  cases here : s.store.op with
  | eraseSuspended sec left => exact absurd here (running sec left)
  | writingInSuspend n g sec left => exact absurd here (quiet n g sec left)
  | idle | erasing | writing | checking | saving => rfl

end Requests

/-! ### The completion of an erase (R76; log 1) -/

theorem exec_eraseCompletion_early {s : State} {sec : SectorNo} {left : Nat} (result : CellResult)
    (erases : s.store.op = .erasing sec (left + 1)) : exec (.eraseCompletion result) s = .next s := by
  show execEraseCompletion result s = _
  unfold execEraseCompletion
  rw [erases]
  rfl

theorem exec_eraseCompletion {s : State} {sec : SectorNo} (result : CellResult) (erases : s.store.op = .erasing sec 0) :
    exec (.eraseCompletion result) s = .next
      ((s.setStore
        { s.store with
          slots := SlotMap.writeSector s.store.slots sec (match result with | .ok => .empty | .failed => .spoiled)
          op := .idle }).send (.storeDone (.erase sec) result)) := by
  show execEraseCompletion result s = _
  unfold execEraseCompletion
  rw [erases]
  rfl

/-- Settles O15, request by request and then the completion. -/
theorem eraseRunsThroughSuspension : Obligations.EraseRunsThroughSuspension := by
  intro s l q
  refine ⟨fun b => exec_sectorErase_malformed, fun n ready => ⟨fun last => ?params, fun sec same => ?slots⟩,
    fun ready => ⟨fun sec left erases => ?suspend, fun other => ?noErase⟩,
    fun ready => ⟨fun sec left suspended => ?resume, fun n g sec left writes => ?busy, fun running quiet => ?nothing⟩,
    fun sec left result => exec_eraseCompletion_early result, fun sec result erases wf => ?completion⟩
  case params => exact exec_sectorErase_params last ready
  case slots => exact exec_sectorErase_slots same ready
  case suspend => exact exec_eraseSuspend ready (suspendErase_erasing (s := q) erases)
  case noErase => exact exec_eraseSuspend ready (suspendErase_other (s := q) other)
  case resume => exact exec_eraseResume ready (resumeErase_suspended (s := q) suspended)
  case busy => exact exec_eraseResume ready (resumeErase_writing (s := q) writes)
  case nothing => exact exec_eraseResume ready (resumeErase_other (s := q) running quiet)
  case completion => exact ⟨_, exec_eraseCompletion result erases, fun k => SlotMap.read_writeSector wf⟩

end Sys2Proof.Proofs
end

section
/-! PROOFS. SECTOR CHECK: the clamped run, the bytes of a sector, and one sector covered (R81, R82, R88). -/

namespace Sys2Proof.Proofs

open Machine Safety

/-- The status of SECTOR CHECK tells whether the run it names ends beyond sector 63 (R81). -/
theorem check_status (first count : Nat) :
    clampedIf (decide (checkFirst first ≠ first) || decide (checkCount first count ≠ count)) =
      if 63 < first ∨ 63 < min first 63 + count then .clamped else .ok := by
  have clamps : (checkFirst first ≠ first ∨ checkCount first count ≠ count) ↔ 63 < first ∨ 63 < min first 63 + count := by
    unfold checkCount checkFirst
    omega
  simp only [clampedIf, ← Bool.decide_or, decide_eq_true_eq, clamps]

theorem exec_sectorCheck {s : State} {l : Link} {first count : Nat} (h1 : first < 256) (h2 : count < 256)
    (ready : Ready s l 0x14 (beBytes 1 first ++ beBytes 1 count)) :
    exec (.sectorCheck l (beBytes 1 first ++ beBytes 1 count)) s = .next
      (if s.store.op ≠ .idle then replied (s.dropFrame l) l 0x14 .busy .none
       else replied
        ((s.dropFrame l).setStore { s.store with op := .checking (min first 63) (min count (63 - min first 63)) 0 0xFFFF#16 })
        l 0x14 (if 63 < first ∨ 63 < min first 63 + count then .clamped else .ok) .none) := by
  show execSectorCheck l _ s = _
  unfold execSectorCheck
  rw [take_replied (k := kSectorCheck) ready rfl, readCheck_beBytes h1 h2]
  dsimp only
  rw [State.dropFrame_store, check_status]
  split_ifs <;> rfl

theorem exec_checkSectorCovered_more {s : State} {first count progress : Nat} {crc : Crc}
    (checks : s.store.op = .checking first count progress crc) (more : progress < count) :
    exec .checkSectorCovered s = .next (s.setStore { s.store with
      op := .checking first count (progress + 1) (crcFeed crc (sectorBytes s.store (first + progress))) }) := by
  show execCheckSectorCovered s = _
  rw [execCheckSectorCovered, checks]
  exact if_pos more

theorem exec_checkSectorCovered_last {s : State} {first count progress : Nat} {crc : Crc}
    (checks : s.store.op = .checking first count progress crc) (last : count ≤ progress) :
    exec .checkSectorCovered s = .next ((s.setStore { s.store with op := .idle }).send
      (.storeDone (.check first count (crcFeed crc (sectorBytes s.store (first + progress)))) .ok)) := by
  show execCheckSectorCovered s = _
  rw [execCheckSectorCovered, checks]
  exact if_neg (Nat.not_lt.mpr last)

theorem sectorBytes_record (x : Store) : sectorBytes x 63 = x.record := if_pos rfl

/-- The bytes of a sector with slots, slot by slot (R82, R202). -/
theorem sectorBytes_slots (x : Store) {sector : Nat} (below : sector < 63) :
    sectorBytes x sector = (List.range 32).flatMap fun position => slotBytes (SlotMap.read x.slots (32 * sector + position)) := by
  rw [sectorBytes, if_neg (by omega), List.range'_eq_map_range, List.flatMap_map]

/-- Settles O16, the bytes of a sector slot by slot. -/
theorem sectorCheckCoversRun : Obligations.SectorCheckCoversRun := by
  intro s l q
  refine ⟨fun first count h1 h2 ready => exec_sectorCheck h1 h2 ready, fun first count progress crc checks => ⟨?more, ?last⟩,
    sectorBytes_record s.store, fun sector below => ?slots⟩
  case more => exact exec_checkSectorCovered_more checks
  case last => exact exec_checkSectorCovered_last checks
  case slots =>
    rw [sectorBytes_slots s.store below]
    refine congrArg (List.flatMap · (List.range 32)) (funext fun position => ?_)
    cases SlotMap.read s.store.slots (32 * sector + position) <;> rfl

end Sys2Proof.Proofs
end

section
/-! PROOFS. A whole SECTOR CHECK: the sectors covered one after another feed their bytes as one sequence (R82, R199). -/

namespace Sys2Proof.Proofs

open Machine Safety

/-- The state in the middle of a check: `left` more commands wait, `progress` sectors are fed. -/
def inCheck (s : State) (first count progress : Nat) (crc : Crc) (left : Nat) : State :=
  { s.setStore { s.store with op := .checking first count progress crc } with
    pending := List.replicate left .checkSectorCovered }

theorem step_inCheck_more (s : State) {first count progress : Nat} (crc : Crc) (left : Nat) (more : progress < count) :
    Sys2Proof.core.step (inCheck s first count progress crc (left + 1)) =
      .next (inCheck s first count (progress + 1) (crcFeed crc (sectorBytes s.store (first + progress))) left) :=
  exec_checkSectorCovered_more (s := inCheck s first count progress crc left) rfl more

/-- The state once the check is done with this CRC, no command waiting. -/
def checkDone (s : State) (first count : Nat) (crc : Crc) : State :=
  ({ s.setStore { s.store with op := .idle } with pending := [] } : State).send (.storeDone (.check first count crc) .ok)

theorem step_inCheck_last (s : State) (first count : Nat) (crc : Crc) :
    Sys2Proof.core.step (inCheck s first count count crc 1) =
      .next (checkDone s first count (crcFeed crc (sectorBytes s.store (first + count)))) :=
  exec_checkSectorCovered_last (s := inCheck s first count count crc 0) rfl le_rfl

theorem run_of_step {M : Host.Core} {s t : M.State} (k : Nat) (h : M.step s = .next t) : M.run (k + 1) s = M.run k t := by
  rw [Host.Core.run, h]

/-- What is left of a check feeds the bytes of the sectors left, in their order. -/
theorem run_inCheck (s : State) (first count left : Nat) {progress : Nat} (crc : Crc) (sum : progress + left = count) :
    Host.Core.run Sys2Proof.core (left + 1) (inCheck s first count progress crc (left + 1)) =
      .next (checkDone s first count
        (crcFeed crc ((List.range' (first + progress) (left + 1)).flatMap fun n => sectorBytes s.store n))) := by
  induction left generalizing progress crc with
  | zero =>
    subst sum
    rw [List.range'_one, List.flatMap_singleton]
    exact run_of_step 0 (step_inCheck_last s first progress crc)
  | succ left ih =>
    rw [List.range'_succ, List.flatMap_cons, crcFeed_append]
    exact (run_of_step (left + 1) (step_inCheck_more s crc (left + 1) (by omega))).trans (ih _ (by omega))

/-- Settles O17, by induction on the sectors left. -/
theorem checkReportsCrcOfRun : Obligations.CheckReportsCrcOfRun := by
  intro s first count checks empty
  have start : { s with pending := List.replicate (count + 1) .checkSectorCovered } =
      inCheck s first count 0 0xFFFF#16 (count + 1) := by
    unfold inCheck
    rw [← checks]
    rfl
  have done (crc : Crc) : checkDone s first count crc =
      (s.setStore { s.store with op := .idle }).send (.storeDone (.check first count crc) .ok) := by
    unfold checkDone
    rw [← empty]
    rfl
  rw [start]
  exact (run_inCheck s first count count 0xFFFF#16 (Nat.zero_add count)).trans (congrArg _ (done _))

end Sys2Proof.Proofs
end

section
/-! PROOFS. SAVE PARAMETERS and the two phases of a save (R68, R83, R84, R88). -/

namespace Sys2Proof.Proofs

open Machine Safety

section Save

variable {s : State}

theorem exec_saveParameters {l : Link} (granted : s.grant.holder = some l) (ready : Ready s l 0x15 []) :
    exec (.saveParameters l []) s = .next
      (if s.store.op ≠ .idle then replied (s.dropFrame l) l 0x15 .busy .none
       else replied ((s.dropFrame l).setStore { s.store with op := .saving .erase (currentParams s) }) l 0x15 .ok .none) := by
  show execSaveParameters l [] s = _
  unfold execSaveParameters
  rw [take_replied (k := kSaveParameters) ready rfl, show readEmpty [] = some () from rfl]
  dsimp only
  rw [needGrant_holder (s := s.dropFrame l) granted, State.dropFrame_store]
  split_ifs <;> rfl

variable {copy : ParamSet}

theorem exec_saveErasePhaseEnd_ok (erases : s.store.op = .saving .erase copy) :
    exec (.saveErasePhaseEnd .ok) s =
      .next (s.setStore { s.store with record := blankRecord, op := .saving .write copy }) := by
  show execSaveErasePhaseEnd .ok s = _
  rw [execSaveErasePhaseEnd, erases]

theorem exec_saveErasePhaseEnd_failed (erases : s.store.op = .saving .erase copy) :
    exec (.saveErasePhaseEnd .failed) s =
      .next ((s.setStore { s.store with record := blankRecord, op := .idle }).send (.storeDone .save .failed)) := by
  show execSaveErasePhaseEnd .failed s = _
  rw [execSaveErasePhaseEnd, erases]

theorem exec_saveWritePhaseEnd_ok (writes : s.store.op = .saving .write copy) :
    exec (.saveWritePhaseEnd .ok) s =
      .next ((s.setStore { s.store with record := paramRecord copy, op := .idle, defaulted := false }).send
        (.storeDone .save .ok)) := by
  show execSaveWritePhaseEnd .ok s = _
  rw [execSaveWritePhaseEnd, writes]

theorem exec_saveWritePhaseEnd_failed (writes : s.store.op = .saving .write copy) :
    exec (.saveWritePhaseEnd .failed) s =
      .next ((s.setStore { s.store with record := blankRecord, op := .idle }).send (.storeDone .save .failed)) := by
  show execSaveWritePhaseEnd .failed s = _
  rw [execSaveWritePhaseEnd, writes]

end Save

/-- Settles O18: the copy is the parameters as they stand at the acceptance. -/
theorem saveWritesTheCopy : Obligations.SaveWritesTheCopy := by
  refine fun s l => ⟨fun granted ready => ⟨currentParams s, exec_saveParameters granted ready, fun a => ?_, rfl, rfl, rfl⟩,
    fun copy erases => ⟨exec_saveErasePhaseEnd_ok erases, exec_saveErasePhaseEnd_failed erases⟩,
    fun copy writes => ⟨exec_saveWritePhaseEnd_ok writes, exec_saveWritePhaseEnd_failed writes⟩⟩
  exact Table.get_map AxisChannel.params s.axes a

end Sys2Proof.Proofs
end

section
/-! PROOFS. READ SEGMENT by the condition of the slot, and PROTECT beside a write in flight (R37, R69, R71, R86). -/

namespace Sys2Proof.Proofs

open Machine Safety

/-! ### READ SEGMENT (R86) -/

/-- READ SEGMENT finds a slot BUSY exactly where it is unreadable or absent (R37, R86). -/
theorem readSegment_busy_iff (op : StoreOp) (n : Nat) :
    (bankBusy op (inBankB (slotSector n)) || slotAbsent op n) = true ↔ SlotHidden op n ∨ SlotAway op n := by
  rw [← slotUnreadable_iff, ← slotAbsent_iff, slotUnreadable]
  cases slotAbsent op n <;> simp

theorem exec_readSegment {s : State} {l : Link} {n : SlotNo} {h : Handled} (ready : Ready s l 0x16 (beBytes 2 n.val))
    (handled : (if bankBusy s.store.op (inBankB (slotSector n.val)) || slotAbsent s.store.op n.val
      then answer (s.dropFrame l) .busy
      else answerWith (s.dropFrame l) .ok (.slot n (SlotMap.read s.store.slots n.val))) = h) :
    exec (.readSegment l (beBytes 2 n.val)) s = .next (replied h.state l 0x16 h.status h.data) := by
  show execReadSegment l _ s = _
  unfold execReadSegment
  refine take_replied ready ?_
  rw [readSlotNo_beBytes]
  exact handled

/-! ### PROTECT (R69) -/

/-- A write into the sector is in flight. -/
def WriteInFlight (op : StoreOp) (sec : SectorNo) : Prop :=
  ∃ n g, n.val / 32 = sec.val ∧ (op = .writing n g ∨ ∃ e left, op = .writingInSuspend n g e left)

theorem writtenSlot_iff (op : StoreOp) (n : SlotNo) :
    writtenSlot op = some n ↔ ∃ g, op = .writing n g ∨ ∃ e left, op = .writingInSuspend n g e left := by
  cases op <;> simp [writtenSlot]

theorem writtenSector_iff (op : StoreOp) (sec : SectorNo) :
    (writtenSlot op).map sectorOf = some sec ↔ WriteInFlight op sec := by
  have here (n : SlotNo) : sectorOf n = sec ↔ n.val / 32 = sec.val := Fin.ext_iff
  simp only [Option.map_eq_some_iff, writtenSlot_iff, here, WriteInFlight]
  constructor
  · rintro ⟨n, ⟨g, writes⟩, lies⟩
    exact ⟨n, g, lies, writes⟩
  · rintro ⟨n, g, lies, writes⟩
    exact ⟨n, ⟨g, writes⟩, lies⟩

section Protect

variable {x : Store} {sec : SectorNo}

theorem protect_quiet (on : Bool) (quiet : ¬ WriteInFlight x.op sec) :
    x.protect sec on = { x with mask := x.mask.set sec.val on sec.isLt } := by
  rw [Store.protect, decide_eq_false (mt (writtenSector_iff _ _).mp quiet)]
  cases on <;> rfl

theorem protect_inFlight_on (flight : WriteInFlight x.op sec) : x.protect sec true = { x with deferred := true } := by
  rw [Store.protect, decide_eq_true ((writtenSector_iff _ _).mpr flight)]
  rfl

theorem protect_inFlight_off (flight : WriteInFlight x.op sec) :
    x.protect sec false = { x with deferred := false, mask := x.mask.set sec.val false sec.isLt } := by
  rw [Store.protect, decide_eq_true ((writtenSector_iff _ _).mpr flight)]
  rfl

end Protect

theorem exec_protect_slots {s : State} {l : Link} {sec : SectorNo} {on : Bool} {x : Store}
    (ready : Ready s l 0x17 (beBytes 1 sec.val ++ [boolCode on])) (protects : s.store.protect sec on = x) :
    exec (.protect l (beBytes 1 sec.val ++ [boolCode on])) s =
      .next (replied ((s.dropFrame l).setStore x) l 0x17 .ok .none) := by
  have payload : readProtect (beBytes 1 sec.val ++ [boolCode on]) = some (sec.castSucc, on) :=
    readProtect_beBytes sec.castSucc on
  have slots : slotSectorOf sec.castSucc = some sec := slotSectorOf_eq rfl
  subst protects
  show execProtect l _ s = _
  unfold execProtect
  refine take_replied (h := answer ((s.dropFrame l).setStore (s.store.protect sec on)) .ok) ready ?_
  rw [payload]
  dsimp only
  rw [slots]
  rfl

theorem exec_protect_params {s : State} {l : Link} {on : Bool} (ready : Ready s l 0x17 [63, boolCode on]) :
    exec (.protect l [63, boolCode on]) s = .next (replied (s.dropFrame l) l 0x17 .protected_ .none) := by
  have payload : readProtect [63, boolCode on] = some (63, on) := readProtect_beBytes 63 on
  show execProtect l _ s = _
  unfold execProtect
  refine take_replied (h := answer (s.dropFrame l) .protected_) ready ?_
  rw [payload]
  rfl

/-- Settles O19, READ SEGMENT by the condition of the slot and PROTECT by the write in flight. -/
theorem readSegmentAndProtect : Obligations.ReadSegmentAndProtect := by
  intro s l q
  refine ⟨fun n ready => ⟨fun hidden => ?busy, fun seen here => ?read⟩, fun on => exec_protect_params, fun sec on ready => ?_⟩
  case busy => exact exec_readSegment ready (if_pos ((readSegment_busy_iff _ _).mpr hidden))
  case read => exact exec_readSegment ready (if_neg fun busy => ((readSegment_busy_iff _ _).mp busy).elim seen here)
  intro inFlight
  refine ⟨fun quiet => ?quiet, fun flight turnedOn => ?on, fun flight turnedOff => ?off⟩
  case quiet => exact exec_protect_slots ready (protect_quiet on quiet)
  case on => subst turnedOn; exact exec_protect_slots ready (protect_inFlight_on flight)
  case off => subst turnedOff; exact exec_protect_slots ready (protect_inFlight_off flight)

end Sys2Proof.Proofs
end

section
/-! PROOFS. Device reset: the slots and the record of an abandoned operation, the values a record gives from their places,
and every block at its reset value (R85, R87, R198, R204). -/

namespace Sys2Proof.Proofs

open Machine Safety

/-! ### What an abandoned operation leaves (R68, R87) -/

/-- A slot that an abandoned operation was working on: of the sector being erased, suspended or not, or being written. -/
def SlotAbandoned (op : StoreOp) (n : Nat) : Prop :=
  SlotAway op n ∨ (∃ sec left, op = .erasing sec left ∧ n / 32 = sec.val) ∨ (∃ m g, op = .writing m g ∧ n = m.val) ∨
  (∃ m g sec left, op = .writingInSuspend m g sec left ∧ n = m.val)

theorem read_abandonedSlots {m : List (Nat × SlotState)} (wf : SlotMap.wf m = true) (op : StoreOp) (n : Nat) :
    (SlotAbandoned op n → SlotMap.read (abandonedSlots m op) n = .spoiled) ∧
    (¬ SlotAbandoned op n → SlotMap.read (abandonedSlots m op) n = SlotMap.read m n) := by
  cases op with
  | erasing sec left | eraseSuspended sec left =>
    simp +contextual [SlotAbandoned, SlotAway, abandonedSlots, SlotMap.read_writeSector wf, slotSector]
  | writing k g => simp +contextual [SlotAbandoned, SlotAway, abandonedSlots, SlotMap.read_write wf]
  | writingInSuspend k g sec left =>
    simp +contextual [SlotAbandoned, SlotAway, abandonedSlots, SlotMap.read_write (SlotMap.writeSector_wf wf),
      SlotMap.read_writeSector wf, slotSector, or_imp]
  | idle | checking | saving => simp [SlotAbandoned, SlotAway, abandonedSlots]

theorem abandonedRecord_saving {op : StoreOp} (record : List Byte) (saves : ∃ phase copy, op = .saving phase copy) :
    abandonedRecord record op = blankRecord := by
  obtain ⟨phase, copy, rfl⟩ := saves
  rfl

theorem abandonedRecord_other {op : StoreOp} (record : List Byte) (other : ¬ ∃ phase copy, op = .saving phase copy) :
    abandonedRecord record op = record := by
  cases op with
  | saving phase copy => exact absurd ⟨phase, copy, rfl⟩ other
  | idle | erasing | eraseSuspended | writing | writingInSuspend | checking => rfl

/-! ### Values at their places of the record (R204) -/

theorem foldl_eq_beUnsigned (bytes : List Byte) :
    ((bytes.foldl (fun acc b => 256 * acc + b.toNat) 0 : Nat) : Int) = beUnsigned bytes := by
  simp only [beUnsigned, beNat, Nat.mul_comm 256]

/-- The centred remainder of a field's unsigned value is its two's complement value. -/
theorem bmod_beUnsigned {bytes : List Byte} {k : Nat} (len : bytes.length = k + 1) :
    Int.bmod (beUnsigned bytes) (256 ^ (k + 1)) = beSigned bytes := by
  have range := beNat_lt bytes
  rw [len] at range
  have small : ((beNat bytes : Nat) : Int) % ((256 ^ (k + 1) : Nat) : Int) = beNat bytes :=
    Int.emod_eq_of_lt (by omega) (by exact_mod_cast range)
  have even : (256 : Nat) ^ (k + 1) = 2 * (128 * 256 ^ k) := by ring
  have half : (2 * beNat bytes < 256 ^ (k + 1)) ↔ (beNat bytes : Int) < (((256 ^ (k + 1) : Nat) : Int) + 1) / 2 := by
    rw [even]
    omega
  unfold Int.bmod beSigned beUnsigned
  simp only [small, len, half]
  push_cast
  rfl

/-- A field of a field. -/
theorem field_field {b : List Byte} {i j m n : Nat} (inside : j + m ≤ n) : field (field b i n) j m = field b (i + j) m := by
  unfold field
  rw [List.drop_take, List.take_take, List.drop_drop, Nat.min_eq_left (by omega)]

theorem filterOf_eq (n : Nat) :
    filterOf n = if (n : Int) < 20 then .us0 else if (n : Int) < 40 then .us20 else if (n : Int) < 80 then .us40 else .us80 := by
  unfold filterOf
  norm_cast

/-! ### An axis block (R85, R93) -/

/-- The parameters of an axis from the places that R204 gives them, where `value offset n` is the record's value there:
each clamped to its range (R85, R92; log 11). -/
def BlockTaken (value : Nat → Nat → Int) (a : Axis) (q : AxisParams) : Prop :=
  let o := 33 * a.val
  q.gear = clamp (value o 3) 1 (2 ^ 22) ∧ q.vmax = clamp (value (o + 3) 4) 1 (2 ^ 26) ∧
  q.amax = clamp (value (o + 7) 3) 1 (2 ^ 20) ∧ q.homeSpeed = clamp (value (o + 10) 4) 1 q.vmax ∧
  q.homeDirection = (if value (o + 14) 1 = 0 then .positive else .negative) ∧
  q.tolerance = clamp (value (o + 27) 4) 0 (2 ^ 31 - 1) ∧
  q.tripFilter = (if value (o + 31) 1 < 20 then .us0 else if value (o + 31) 1 < 40 then .us20
    else if value (o + 31) 1 < 80 then .us40 else .us80) ∧
  q.recovery = (if value (o + 32) 1 = 0 then .manual else .retry) ∧
  (bounded a = true →
    q.indexOffset = clamp (Int.bmod (value (o + 15) 4) (2 ^ 32)) (-2 ^ 30) (2 ^ 30) ∧
    q.travelMin = clamp (Int.bmod (value (o + 19) 4) (2 ^ 32)) (-2 ^ 30) (2 ^ 30) ∧
    q.travelMax = clamp (Int.bmod (value (o + 23) 4) (2 ^ 32)) (-2 ^ 30) (2 ^ 30) ∧
    q.wrapLimit = AxisParams.builtIn.wrapLimit) ∧
  (bounded a = false →
    q.indexOffset = Int.bmod (value (o + 15) 4) (2 ^ 32) ∧ q.wrapLimit = clamp (value (o + 19) 4) 0 8 ∧
    q.travelMin = AxisParams.builtIn.travelMin ∧ q.travelMax = AxisParams.builtIn.travelMax)

theorem readBlock_taken {record : List Byte} (len : record.length = 572) {value : Nat → Nat → Int}
    (places : ∀ offset n, value offset n = beUnsigned (field record offset n)) (a : Axis) :
    BlockTaken value a (readBlock a (field record (33 * a.val) 33)) := by
  have signed (j : Nat) (inside : j + 4 ≤ 33) :
      Int.bmod (beUnsigned (field record (33 * a.val + j) 4)) (2 ^ 32) = beSigned (field record (33 * a.val + j) 4) :=
    bmod_beUnsigned (k := 3) (field_length (by have := a.isLt; omega))
  have quarter : quarterTurn = 2 ^ 30 := by norm_num [quarterTurn]
  unfold BlockTaken
  simp only [places, signed, readBlock, field_field, Nat.reduceAdd, Nat.reduceLeDiff]
  refine ⟨rfl, rfl, rfl, trivial, ?direction, rfl, filterOf_eq _, ?recovery, fun kind => ?bounded, fun kind => ?rotary⟩
  case direction => simp only [directionOf, beUnsigned, Nat.cast_eq_zero]
  case recovery => simp only [recoveryOf, beUnsigned, Nat.cast_eq_zero]
  case bounded => simp [kind, quarter]
  case rotary =>
    have range := beSigned_range (k := 4) (b := field record (33 * a.val + 15) 4) (field_length (by have := a.isLt; omega))
    have index : clamp (beSigned (field record (33 * a.val + 15) 4)) (-2147483648) 2147483647 =
        beSigned (field record (33 * a.val + 15) 4) := clamp_of_mem (by omega) (by omega)
    simp [kind, index]

theorem consistent_iff (a : Axis) (q : AxisParams) : consistent a q = true ↔ ParamsConsistent a q := by
  unfold consistent ParamsConsistent
  cases bounded a <;> simp [and_assoc]

/-- An axis whose block as taken is inconsistent has its built-in defaults whole (R85, R93). -/
theorem loadAxis_cases (record : List Byte) (a : Axis) :
    (ParamsConsistent a (readBlock a (field record (33 * a.val) 33)) →
      loadAxis record a = readBlock a (field record (33 * a.val) 33)) ∧
    (¬ ParamsConsistent a (readBlock a (field record (33 * a.val) 33)) → loadAxis record a = AxisParams.builtIn) := by
  rw [← consistent_iff]
  exact ⟨fun fits => if_pos fits, fun fails => if_neg fails⟩

/-! ### The start-up from the record (R85) -/

/-- The site and TW of a record whose check matches, from their places. -/
theorem loadParams_of_checks {record : List Byte} (len : record.length = 572)
    (matching : crcBytes (crcOf (record.take 570)) = record.drop 570) :
    ∃ ps, loadParams record = some ps ∧
      ps.latitude = clamp (Int.bmod (beUnsigned (field record 561 4)) (2 ^ 32)) (-2 ^ 30) (2 ^ 30) ∧
      ps.longitude = beUnsigned (field record 565 4) ∧
      ps.tw = clamp (Int.bmod (beUnsigned (field record 569 1)) (2 ^ 8)) 60 115 / 5 * 5 ∧
      ∀ a, ps.axes.get a = loadAxis record a := by
  have latitude : Int.bmod (beUnsigned (field record 561 4)) (2 ^ 32) = beSigned (field record 561 4) :=
    bmod_beUnsigned (k := 3) (field_length (by omega))
  have tw : Int.bmod (beUnsigned (field record 569 1)) (2 ^ 8) = beSigned (field record 569 1) :=
    bmod_beUnsigned (k := 0) (field_length (by omega))
  rw [latitude, tw]
  exact ⟨_, if_pos ⟨len, matching⟩, rfl, rfl, Int.mul_comm _ _, Table.get_build _⟩

theorem loadParams_mismatch {record : List Byte} (differs : crcBytes (crcOf (record.take 570)) ≠ record.drop 570) :
    loadParams record = none :=
  if_neg fun checks => differs checks.2

theorem takeTripLines_append (trips : List Axis) (a : Axis) (s : State) :
    takeTripLines (trips ++ [a]) s = tripSeen (takeTripLines trips s) ⟨a, true, 0⟩ := List.foldl_append

/-- Settles O50, by what start-up finds in sector 63. -/
theorem deviceResetSetsEveryBlock : Obligations.DeviceResetSetsEveryBlock := by
  intro s wf saving spoiled stands checks at_ within taken
  have stands_of {record : List Byte} {found : Option ParamSet}
      (kept : abandonedRecord s.store.record s.store.op = record) (start : loadParams record = found) :
      stands (found.getD ParamSet.builtIn) found.isNone record := by
    subst kept start
    exact ⟨(powerOn s).axes, abandonedSlots s.store.slots s.store.op, rfl, read_abandonedSlots wf s.store.op,
      fun a => Table.get_build _ a⟩
  refine ⟨fun found quiet => ?checked, fun ps legal same quiet => ?saved, fun quiet differs => ?mismatch, fun saves => ?cut,
    fun trips a => ⟨takeTripLines trips (powerOn s), rfl, ?lines⟩⟩
  case checked =>
    obtain ⟨len, matching⟩ := found
    obtain ⟨ps, loaded, latitude, longitude, tw, axes⟩ := loadParams_of_checks len matching
    have places (offset n : Nat) : at_ offset n = beUnsigned (field s.store.record offset n) := foldl_eq_beUnsigned _
    refine ⟨ps, stands_of (abandonedRecord_other _ quiet) loaded, ?_, ?_, ?_, fun a => ⟨_, readBlock_taken len places a, ?_⟩⟩
    · rw [places]; exact latitude
    · rw [places]; exact longitude
    · rw [places]; exact tw
    · rw [axes]; exact loadAxis_cases s.store.record a
  case saved => exact stands_of ((abandonedRecord_other _ quiet).trans same) (loadParams_paramRecord legal)
  case mismatch => exact stands_of (abandonedRecord_other _ quiet) (loadParams_mismatch differs)
  case cut => exact stands_of (abandonedRecord_saving _ saves) loadParams_blank
  case lines => exact congrArg _ (takeTripLines_append trips a (powerOn s))

end Sys2Proof.Proofs
end

section
/-! PROOFS. The profile update of an unwatched axis, mode by mode, in the terms of the statements (R90, R94 to R105, R120 to
R127). -/

namespace Sys2Proof.Proofs

open Machine Safety

/-! ### What the stages of each mode give -/

theorem turn_eq : turn = 2 ^ 32 := by decide

/-- The drive of a channel that has moved (R104). -/
theorem driveOut_eq (c : AxisChannel) (p v : Int) : driveOut { c with p := p, v := v } = driven c p v := by
  simp only [driveOut, drivePosition, driven, turn_eq]

/-- An update toward a destination of the axis itself: the profile, the clamp to the travel, the drive (R96 to R104). -/
theorem ownStages_eq (s : State) (a : Axis) (x : Int) :
    let c := s.axis a
    let w := limitTravel a c (profileStep c.params.amax (speedLimit s c) c.v c.p (x - c.p))
    ownStages s a x = (sendLimit s a w.2.2, driven c w.1 w.2.1) := by
  intro c w
  unfold ownStages
  simp only [moveToward_eq, softClamp_eq, driveOut_eq]
  rfl

/-- The clamp to the travel leaves an axis that stands with v 0 at v 0 (R102). -/
theorem limitTravel_still (a : Axis) (c : AxisChannel) (p : Int) : (limitTravel a c (p, 0)).2.1 = 0 := by
  unfold limitTravel
  split_ifs
  · split
    · split_ifs <;> rfl
    · rfl
  · rfl

/-- An axis whose destination is where it stands arrives with v 0 (R90, R101). -/
theorem ownStages_standing (s : State) (a : Axis) :
    let c := s.axis a
    let w := limitTravel a c (c.p, 0)
    ownStages s a c.p = (sendLimit s a w.2.2, driven c w.1 0) := by
  intro c w
  have arrived : profileStep c.params.amax (speedLimit s c) c.v c.p (c.p - c.p) = (c.p, 0) := by
    simp [profileStep]
  rw [ownStages_eq, arrived, limitTravel_still]

/-- An update in STOPPING: a step toward v 0, the clamp to the travel, the drive (R100 to R104). -/
theorem stoppingStages_eq (s : State) (a : Axis) :
    let c := s.axis a
    let w := limitTravel a c (freeStep c.params.amax c.v c.p 0)
    stoppingStages s a = (sendLimit s a w.2.2, driven c w.1 w.2.1) := by
  intro c w
  unfold stoppingStages
  simp only [moveFree, softClamp_eq, driveOut_eq]
  rfl

/-- An update in TRACK: toward the role target, with the lag test before the drive (R96 to R104). -/
theorem trackStages_eq (s : State) (a : Axis) :
    let c := s.axis a
    let e := trackError a c (roleOf s a).2
    let w := limitTravel a c (profileStep c.params.amax (speedLimit s c) c.v c.p e)
    let s2 := sendLimit (roleOf s a).1 a w.2.2
    trackStages s a =
      (if c.params.tolerance < |e| ∧ c.lagging = false then s2.send (.lagging a) else s2,
       { driven c w.1 w.2.1 with lagging := decide (c.params.tolerance < |e|) }) := by
  intro c e w s2
  unfold trackStages lagTest
  simp only [roleTarget_eq, roleOf_axis, roleOf_thermal, moveToward_eq, softClamp_eq, mag_eq]
  by_cases lags : c.params.tolerance < |e|
  · rw [if_pos lags]
    cases told : c.lagging <;> simp only [lags] <;> exact Prod.ext rfl (driveOut_eq { c with lagging := true } _ _)
  · rw [if_neg lags]
    simp only [lags]
    exact Prod.ext rfl (driveOut_eq { c with lagging := false } _ _)

/-- Position and velocity after the step of a homing phase, whose velocity the effective vmax limits (R120). -/
def homingStep (s : State) (c : AxisChannel) (f : HomingPhase) : Int × Int :=
  freeStep c.params.amax c.v c.p (clamp (phaseVelocity c.params f) (-speedLimit s c) (speedLimit s c))

/-- An update in HOMING: the step of its phase, the drive, and the phase's end (R120 to R127). -/
theorem homingStages_eq (s : State) (a : Axis) (h : HomingRecord) :
    let c := s.axis a
    let w := homingStep s c h.phase
    homingStages s a h = homingEnd s a (driven c w.1 w.2) h |w.1 - c.p| (speedLimit s c) := by
  intro c w
  unfold homingStages
  simp only [moveFree, driveOut_eq, mag_eq]
  rfl

/-! ### The end of an update in HOMING, phase by phase -/

section Phases

variable {h : HomingRecord} (s : State) (a : Axis) (c : AxisChannel) (moved vmax : Int)

theorem homingEnd_seek (phase : h.phase = .seek) :
    homingEnd s a c h moved vmax =
      if seekPassed a c.params (h.seekDistance + moved) = true ∧ vmax ≠ 0 then homingFault s a c .homeTimeout
      else (s, { c with mode := .homing { h with seekDistance := h.seekDistance + moved } }) := by
  unfold homingEnd HomingRecord.travelled
  rw [phase]
  by_cases stands : vmax = 0 <;> simp [stands]

theorem homingEnd_backoff (phase : h.phase = .backoff) :
    homingEnd s a c h moved vmax =
      (s, { c with
            mode := if c.v = 0 ∧ vmax ≠ 0 then .homing { h with phase := .creep, creepDistance := 0 } else .homing h }) := by
  unfold homingEnd HomingRecord.travelled
  rw [phase]
  by_cases stands : vmax = 0 <;> by_cases rests : c.v = 0 <;> simp [stands, rests]

theorem homingEnd_creep (phase : h.phase = .creep) :
    homingEnd s a c h moved vmax =
      (s, { c with mode := .homing { h with creepDistance := h.creepDistance + moved } }) := by
  unfold homingEnd HomingRecord.travelled
  rw [phase]
  exact ite_self _

theorem homingEnd_settle (phase : h.phase = .settle) :
    homingEnd s a c h moved vmax =
      if c.v = 0 ∧ vmax ≠ 0 then settled s a c else (s, { c with mode := .homing h }) := by
  unfold homingEnd HomingRecord.travelled
  rw [phase]
  by_cases stands : vmax = 0 <;> simp [stands]

end Phases

/-! ### The whole update, by the mode of the axis -/

section ByMode

variable {s : State} {a : Axis}

theorem updated_stages {y : State × AxisChannel} (stages : updateStages s a = some y) : updated s a = y.1.setAxis a y.2 := by
  rw [updated, stages]

theorem updated_track (mode : (s.axis a).mode = .track) :
    updated s a = (trackStages s a).1.setAxis a (trackStages s a).2 :=
  updated_stages (by rw [updateStages, mode])

theorem updated_move {x : Int} (mode : (s.axis a).mode = .move x) :
    updated s a = (ownStages s a x).1.setAxis a (restMode (ownStages s a x).2) :=
  updated_stages (by rw [updateStages, mode])

theorem updated_standing (mode : (s.axis a).mode = .parked ∨ (s.axis a).mode = .held) :
    updated s a = (ownStages s a (s.axis a).p).1.setAxis a (ownStages s a (s.axis a).p).2 :=
  updated_stages (by rcases mode with mode | mode <;> rw [updateStages, mode])

theorem updated_stopping {next : NextMode} (mode : (s.axis a).mode = .stopping next) :
    updated s a = (stoppingStages s a).1.setAxis a (restMode (stoppingStages s a).2) :=
  updated_stages (by rw [updateStages, mode])

theorem updated_homing {h : HomingRecord} (mode : (s.axis a).mode = .homing h) :
    updated s a = (homingStages s a h).1.setAxis a (homingStages s a h).2 :=
  updated_stages (by rw [updateStages, mode])

theorem updated_driveOff
    (mode : (∃ prior left, (s.axis a).mode = .recovering prior left) ∨ ∃ cause, (s.axis a).mode = .fault cause) :
    updated s a = s.setAxis a { s.axis a with burst := 0 } := by
  unfold updated updateStages
  rcases mode with ⟨prior, left, mode⟩ | ⟨cause, mode⟩ <;> rw [mode]

theorem exec_profileUpdate_unwatched (unwatched : Unwatched s (.axis a)) :
    exec (.profileUpdate a) s = .next (updated s a) := by
  have quiet : Unwatched (updated s a) (.axis a) := by
    unfold Unwatched
    rwa [updated_watches]
  rw [exec_profileUpdate, observeAxis_unwatched _ _ quiet]

end ByMode

/-- Settles O22: the stages of TRACK, with the error as `trackError_eq` gives it. -/
theorem updateInTrack : Obligations.UpdateInTrack := by
  intro s a unwatched mode c s1 x short window e w s2 s3
  have error : trackError a c x = e := trackError_eq a c x
  rw [exec_profileUpdate_unwatched unwatched, updated_track mode, trackStages_eq, error]

/-- Settles O23, mode by mode. -/
theorem updateInMoveAndAtRest : Obligations.UpdateInMoveAndAtRest := by
  intro s a unwatched c
  rw [exec_profileUpdate_unwatched unwatched]
  refine ⟨fun x mode => ?move, fun mode => ?standing, fun mode => ?off, fun next mode => ?stopping⟩
  case move =>
    intro w c'
    rw [updated_move mode, ownStages_eq, restMode_move (c := c') mode]
    rfl
  case standing => rw [updated_standing mode, ownStages_standing]
  case off => rw [updated_driveOff mode]
  case stopping =>
    intro w c'
    rw [updated_stopping mode, stoppingStages_eq, restMode_stopping (c := c') mode]
    rfl

/-! ### HOMING in the terms of the statement -/

theorem direction_sign_eq (d : Direction) : Direction.sign d = match d with | .positive => 1 | .negative => -1 := by
  cases d <;> rfl

theorem seekPassed_iff (a : Axis) (q : AxisParams) (far : Int) :
    seekPassed a q far = true ↔ if bounded a then 5 * (q.travelMax - q.travelMin) < 4 * far else 5368709120 < far := by
  unfold seekPassed rotarySeekLimit
  split <;> exact decide_eq_true_iff

/-- A position lies in the range that an axis may travel, where it has one (R102, R126). -/
def InTravel (a : Axis) (q : AxisParams) (p : Int) : Prop := ∀ lo hi, travelRange a q = some (lo, hi) → lo ≤ p ∧ p ≤ hi

theorem inRange_iff (a : Axis) (c : AxisChannel) : inRange a c = true ↔ InTravel a c.params c.p := by
  unfold inRange InTravel
  cases travelRange a c.params <;> simp [Prod.ext_iff]

/-- The end of a homing at rest in range: REFERENCED and PARKED (R126). -/
theorem settled_inside (s : State) {a : Axis} {c : AxisChannel} (inside : InTravel a c.params c.p) :
    settled s a c = (s.send (.referenced a), { c with mode := .parked, referenced := true }) :=
  if_pos ((inRange_iff a c).mpr inside)

/-- The end of a homing at rest beyond its range (R126, R127). -/
theorem settled_outside (s : State) {a : Axis} {c : AxisChannel} (outside : ¬ InTravel a c.params c.p) :
    settled s a c = homingFault s a c .homeRange :=
  if_neg (mt (inRange_iff a c).mp outside)

/-- Settles O25, by the end of each phase. -/
theorem updateInHoming : Obligations.UpdateInHoming := by
  intro s a h unwatched mode c q dir creep lim w moved gone answers stays faults
  have step (f : HomingPhase) : homingStep s c f = w (phaseVelocity q f) := rfl
  have sign : Direction.sign q.homeDirection = dir := direction_sign_eq q.homeDirection
  have forward : phaseVelocity q .seek = dir * q.homeSpeed := congrArg (· * q.homeSpeed) sign
  have back : phaseVelocity q .creep = creep := congrArg (fun d => -d * creepSpeed q) sign
  have run (desired : Int) (hd : phaseVelocity q h.phase = desired) {t : State × AxisChannel}
      (ended : homingEnd s a (moved desired) h (gone desired) lim = t) : answers (t.1.setAxis a t.2) := by
    show exec (.profileUpdate a) s = _
    subst hd ended
    rw [exec_profileUpdate_unwatched unwatched, updated_homing mode, homingStages_eq, step]
  refine ⟨fun phase => ?seek, fun phase => ?backoff, fun phase => ?creep, fun phase => ?settle⟩
  case seek =>
    intro far passed
    have passes := seekPassed_iff a q far
    have ended := homingEnd_seek s a (moved (dir * q.homeSpeed)) (gone (dir * q.homeSpeed)) lim phase
    refine ⟨fun ends => ?_, fun beyond runs => ?_⟩
    · rw [if_neg (fun both => ends.elim (fun short => short (passes.mp both.1)) both.2)] at ended
      exact run _ (by rw [phase, forward]) ended
    · rw [if_pos ⟨passes.mpr beyond, runs⟩] at ended
      exact run _ (by rw [phase, forward]) ended
  case backoff =>
    have ended := homingEnd_backoff s a (moved 0) (gone 0) lim phase
    refine ⟨fun ends => ?_, fun rests runs => ?_⟩
    · rw [if_neg (fun both => ends.elim (fun slows => slows both.1) both.2)] at ended
      exact run _ (by rw [phase]; rfl) ended
    · rw [if_pos ⟨rests, runs⟩] at ended
      exact run _ (by rw [phase]; rfl) ended
  case creep => exact run _ (by rw [phase, back]) (homingEnd_creep s a (moved creep) (gone creep) lim phase)
  case settle =>
    have ended := homingEnd_settle s a (moved 0) (gone 0) lim phase
    refine ⟨fun ends => ?_, fun rests runs => ⟨fun inside => ?_, fun outside => ?_⟩⟩
    · rw [if_neg (fun both => ends.elim (fun slows => slows both.1) both.2)] at ended
      exact run _ (by rw [phase]; rfl) ended
    · rw [if_pos ⟨rests, runs⟩, settled_inside (a := a) (c := moved 0) s inside] at ended
      exact run _ (by rw [phase]; rfl) ended
    · have beyond : ¬ InTravel a q (w 0).1 := by
        obtain ⟨lo, hi, range, beyond⟩ := outside
        intro inside
        have := inside lo hi range
        omega
      rw [if_pos ⟨rests, runs⟩, settled_outside (a := a) (c := moved 0) s beyond] at ended
      exact run _ (by rw [phase]; rfl) ended

end Sys2Proof.Proofs
end

section
/-! PROOFS. The requests to axis sets in the terms of the statements: TRACK, PARK and HOME (R107 to R109, R112, R119). -/

namespace Sys2Proof.Proofs

open Machine Safety

/-! ### Whether an axis may be put into TRACK or MOVE (R108, R110) -/

/-- The modes from which TRACK and MOVE take a REFERENCED axis (R108, R110). -/
def FollowMode (m : Mode) : Prop := m = .parked ∨ m = .track ∨ (∃ x, m = .move x) ∨ ∃ next, m = .stopping next

theorem trackRefusal_none {c : AxisChannel} (referenced : c.referenced = true) (may : FollowMode c.mode) :
    trackRefusal c = none := by
  unfold trackRefusal
  rcases may with mode | mode | ⟨x, mode⟩ | ⟨next, mode⟩ <;> rw [mode] <;> exact if_pos referenced

theorem trackRefusal_faulted {c : AxisChannel} (fault : ∃ cause, c.mode = .fault cause) :
    trackRefusal c = some .faulted := by
  obtain ⟨cause, mode⟩ := fault
  rw [trackRefusal, mode]

theorem trackRefusal_unreferenced {c : AxisChannel} (sound : ∀ cause, c.mode ≠ .fault cause) (lost : c.referenced = false) :
    trackRefusal c = some .unreferenced := by
  unfold trackRefusal
  rw [lost]
  cases mode : c.mode with
  | fault cause => exact absurd mode (sound cause)
  | parked | track | move | stopping | homing | held | recovering => rfl

theorem trackRefusal_busy {c : AxisChannel} (sound : ∀ cause, c.mode ≠ .fault cause) (referenced : c.referenced = true)
    (other : ¬ FollowMode c.mode) : trackRefusal c = some .busy := by
  unfold trackRefusal
  rw [referenced]
  cases mode : c.mode with
  | fault cause => exact absurd mode (sound cause)
  | homing | held | recovering => rfl
  | parked => exact absurd (.inl mode) other
  | track => exact absurd (.inr (.inl mode)) other
  | move x => exact absurd (.inr (.inr (.inl ⟨x, mode⟩))) other
  | stopping next => exact absurd (.inr (.inr (.inr ⟨next, mode⟩))) other

/-! ### TRACK, PARK and HOME taken from the holder in NORMAL (R107, R180) -/

/-- The axes of a set as its three bytes name them, in ascending order (R200). -/
def axesNamed (n : Nat) : List Axis := (List.finRange 17).filter fun a => n.testBit a.val

theorem mem_axesNamed {n : Nat} {a : Axis} : a ∈ axesNamed n ↔ n.testBit a.val = true := by simp [axesNamed]

/-- One change on the axes of a set: the others stand. -/
theorem changeSet_axis (s : State) (n : Nat) (f : AxisChannel → AxisChannel) (a : Axis) :
    (s.changeSet (axesNamed n) f).axes.get a = if n.testBit a.val then f (s.axis a) else s.axis a := by
  unfold State.changeSet
  rw [State.setAxes_axes, Table.get_build]
  simp only [mem_axesNamed]

/-- TRACK on a set of axes (R108, R109). -/
def trackSet (n : Nat) (s : State) : Handled :=
  match firstRefusal s trackRefusal (axesNamed n) with
  | some (a, st) => answerWith s st (.axisNumber a)
  | none => answer (s.changeSet (axesNamed n) enterTrack) .ok

/-- HOME on a set of axes (R119). -/
def homeSet (n : Nat) (s : State) : Handled :=
  match firstRefusal s homeRefusal (axesNamed n) with
  | some (a, st) => answerWith s st (.axisNumber a)
  | none => answer (s.changeSet (axesNamed n) startHoming) .ok

section Taken

variable {s : State} {l : Link} {n : Nat} (nonempty : 0 < n) (fits : n < 2 ^ 17) (granted : s.grant.holder = some l)
  (normal : s.inHold = false)
include nonempty fits granted normal

theorem exec_track {h : Handled} (ready : Ready s l 0x20 (beBytes 3 n)) (handled : trackSet n (s.dropFrame l) = h) :
    exec (.track l (beBytes 3 n)) s = .next (replied h.state l 0x20 h.status h.data) := by
  show execTrack l _ s = _
  unfold execTrack
  refine take_replied ready ?_
  rw [readAxisSet_beBytes nonempty fits]
  simp only
  rw [needGrant_holder (s := s.dropFrame l) granted, needNormal_normal (s := s.dropFrame l) normal]
  exact handled

theorem exec_park (ready : Ready s l 0x22 (beBytes 3 n)) :
    exec (.park l (beBytes 3 n)) s =
      .next (replied ((s.dropFrame l).changeSet (axesNamed n) parkAxis) l 0x22 .ok .none) := by
  show execPark l _ s = _
  unfold execPark
  rw [take_replied (k := kPark) ready rfl, readAxisSet_beBytes nonempty fits]
  simp only
  rw [needGrant_holder (s := s.dropFrame l) granted, needNormal_normal (s := s.dropFrame l) normal]
  rfl

theorem exec_home {h : Handled} (ready : Ready s l 0x25 (beBytes 3 n)) (handled : homeSet n (s.dropFrame l) = h) :
    exec (.home l (beBytes 3 n)) s = .next (replied h.state l 0x25 h.status h.data) := by
  show execHome l _ s = _
  unfold execHome
  refine take_replied ready ?_
  rw [readAxisSet_beBytes nonempty fits]
  simp only
  rw [needGrant_holder (s := s.dropFrame l) granted, needNormal_normal (s := s.dropFrame l) normal]
  exact handled

end Taken

section Sets

variable {s : State} {n : Nat}

theorem trackSet_passes (passes : ∀ a : Axis, n.testBit a.val = true → trackRefusal (s.axis a) = none) :
    trackSet n s = answer (s.changeSet (axesNamed n) enterTrack) .ok := by
  rw [trackSet, axesNamed, firstRefusal_none passes]

theorem trackSet_refused {a : Axis} {st : Status} (named : n.testBit a.val = true)
    (refused : trackRefusal (s.axis a) = some st)
    (before : ∀ b : Axis, b < a → n.testBit b.val = true → trackRefusal (s.axis b) = none) :
    trackSet n s = answerWith s st (.axisNumber a) := by
  rw [trackSet, axesNamed, firstRefusal_some named refused before]

theorem homeRefusal_none {c : AxisChannel} (mode : c.mode = .parked) : homeRefusal c = none := by
  rw [homeRefusal, mode]

theorem homeRefusal_notParked {c : AxisChannel} (other : c.mode ≠ .parked) : homeRefusal c = some .notParked := by
  unfold homeRefusal
  split
  next mode => exact absurd mode other
  next => rfl

theorem homeSet_passes (parked : ∀ a : Axis, n.testBit a.val = true → (s.axis a).mode = .parked) :
    homeSet n s = answer (s.changeSet (axesNamed n) startHoming) .ok := by
  rw [homeSet, axesNamed, firstRefusal_none fun a named => homeRefusal_none (parked a named)]

theorem homeSet_refused {a : Axis} (named : n.testBit a.val = true) (other : (s.axis a).mode ≠ .parked)
    (before : ∀ b : Axis, b < a → n.testBit b.val = true → (s.axis b).mode = .parked) :
    homeSet n s = answerWith s .notParked (.axisNumber a) := by
  rw [homeSet, axesNamed,
    firstRefusal_some named (homeRefusal_notParked other) fun b less hb => homeRefusal_none (before b less hb)]

end Sets

/-! ### What the requests make of one axis -/

theorem enterTrack_eq (c : AxisChannel) :
    enterTrack c = if c.mode = .track then c else { c with mode := .track, lagging := false } := by
  unfold enterTrack
  cases c.mode <;> simp

/-- Settles O27: the set is carried out where no axis is refused, else the first refused axis decides. -/
theorem trackAllOrNone : Obligations.TrackAllOrNone := by
  intro s l n nonempty fits granted normal ready q mayTrack
  have may {c : AxisChannel} (h : mayTrack c) : trackRefusal c = none := trackRefusal_none h.1 h.2
  refine ⟨fun all => ⟨(q.changeSet (axesNamed n) enterTrack).axes, ?_, fun a => ?_⟩, fun a named before => ?_⟩
  · exact exec_track nonempty fits granted normal ready (trackSet_passes fun a named => may (all a named))
  · rw [changeSet_axis, ← enterTrack_eq]
    rfl
  · have refused {st : Status} (why : trackRefusal (s.axis a) = some st) :
        exec (.track l (beBytes 3 n)) s = .next (replied q l 0x20 st (.axisNumber a)) :=
      exec_track nonempty fits granted normal ready (trackSet_refused named why fun b less hb => may (before b less hb))
    exact ⟨fun fault => refused (trackRefusal_faulted fault),
      fun sound lost => refused (trackRefusal_unreferenced sound lost),
      fun sound referenced other =>
        refused (trackRefusal_busy sound referenced fun follow => other ⟨referenced, follow⟩)⟩

/-- Settles O29, PARK by the mode of each axis and HOME by the first axis that is not PARKED. -/
theorem parkAndHomeBySet : Obligations.ParkAndHomeBySet := by
  intro s l n nonempty fits granted normal q
  refine ⟨fun ready => ?park, fun ready => ⟨fun parked => ?home, fun a named other before => ?refused⟩⟩
  case park =>
    refine ⟨(q.changeSet (axesNamed n) parkAxis).axes, exec_park nonempty fits granted normal ready, fun a => ?_⟩
    have parked : (q.changeSet (axesNamed n) parkAxis).axes.get a =
        if n.testBit a.val then parkAxis (s.axis a) else s.axis a := changeSet_axis q n parkAxis a
    intro c
    refine ⟨fun out => ?_, fun named => ?_⟩
    · rw [parked, out]
      rfl
    rw [parked, named, if_pos rfl]
    unfold parkAxis
    refine ⟨?_, ?_, fun next mode => ?_, fun prior left mode => ?_⟩
    · rintro (mode | ⟨cause, mode⟩) <;> rw [mode]
    · rintro (mode | ⟨x, mode⟩ | ⟨h, mode⟩) <;> rw [mode]
    · rw [mode]
    · rw [mode]
  case home =>
    refine ⟨(q.changeSet (axesNamed n) startHoming).axes, ?_, changeSet_axis q n startHoming⟩
    exact exec_home nonempty fits granted normal ready (homeSet_passes parked)
  case refused => exact exec_home nonempty fits granted normal ready (homeSet_refused named other before)

end Sys2Proof.Proofs
end

section
/-! PROOFS. MOVE in the terms of the statements (R107, R110, R111). -/

namespace Sys2Proof.Proofs

open Machine Safety

/-! ### The payload (R110, R200) -/

/-- A MOVE whose direction is listed is well-formed, whatever value it carries. -/
theorem readMove_some (a : Axis) {value : List Byte} {dir : Byte} (len : value.length = 4) (listed : dir.toNat ≤ 2) :
    ∃ x d, readMove (beBytes 1 a.val ++ value ++ [dir]) = some (a, x, d) := by
  have direction : ∃ d, readMoveDirection [dir] = some d := by
    unfold readMoveDirection
    rw [beNat_singleton]
    interval_cases dir.toNat <;> exact ⟨_, rfl⟩
  obtain ⟨d, direction⟩ := direction
  rw [readMove, ofLength_eq (by simp [len])]
  simp [field_left, field_skip, field_head, List.append_assoc, len, readNo_beBytes a, direction]

/-! ### The destination (R110, R111) -/

/-- On a rotary axis the destination before the clamp is the position of the asked angle on the side that the direction
names: within half a turn of P, at most a turn ahead, or at most a turn behind (R111). -/
theorem moveDestination_rotary {a : Axis} {pos value x : Int} (rotary : bounded a = false)
    (angle : (x - value) % 2 ^ 32 = 0) :
    (pos - 2 ^ 31 ≤ x → x < pos + 2 ^ 31 → moveDestination a pos value .shortest = x) ∧
    (pos ≤ x → x < pos + 2 ^ 32 → moveDestination a pos value .positive = x) ∧
    (pos - 2 ^ 32 < x → x ≤ pos → moveDestination a pos value .negative = x) := by
  have ahead : wrap (value - pos % turn) = (x - pos) % 2 ^ 32 := by
    unfold wrap turn
    omega
  unfold moveDestination
  rw [ahead, rotary]
  simp only [Bool.false_eq_true, if_false, halfTurn, turn]
  refine ⟨fun low high => ?_, fun low high => ?_, fun low high => ?_⟩
  · split_ifs <;> omega
  · omega
  · split_ifs <;> omega

/-- The clamp of a destination to the travel of a bounded axis or the window of a rotary one (R111). -/
theorem clampTravel_eq (a : Axis) (q : AxisParams) (x : Int) :
    clampTravel a q x =
      if bounded a then clamp x q.travelMin q.travelMax
      else if 0 < q.wrapLimit then clamp x (-(q.wrapLimit * 2 ^ 32)) (q.wrapLimit * 2 ^ 32) else x := by
  unfold clampTravel travelRange
  rw [turn_eq]
  split_ifs <;> rfl

/-! ### The request taken from the holder in NORMAL -/

/-- A MOVE of one axis (R110, R111). -/
def moveAxis (a : Axis) (value : Int) (dir : MoveDirection) (s : State) : Handled :=
  match trackRefusal (s.axis a) with
  | some st => answer s st
  | none =>
    let x := moveDestination a (s.axis a).p value dir
    let y := clampTravel a (s.axis a).params x
    answer (s.setAxis a (enterMove y (s.axis a))) (clampedIf (decide (y ≠ x)))

theorem moveAxis_refused {s : State} {a : Axis} {value : Int} {dir : MoveDirection} {st : Status}
    (refused : trackRefusal (s.axis a) = some st) : moveAxis a value dir s = answer s st := by
  rw [moveAxis, refused]

theorem moveAxis_goes {s : State} {a : Axis} {value x : Int} {dir : MoveDirection}
    (may : trackRefusal (s.axis a) = none) (there : moveDestination a (s.axis a).p value dir = x) :
    moveAxis a value dir s =
      answer (s.setAxis a (enterMove (clampTravel a (s.axis a).params x) (s.axis a)))
        (if clampTravel a (s.axis a).params x = x then .ok else .clamped) := by
  subst there
  rw [moveAxis, may, ← clampedIf_ne]

theorem exec_move {s : State} {l : Link} {p : List Byte} {a : Axis} {value : Int} {dir : MoveDirection} {h : Handled}
    (granted : s.grant.holder = some l) (normal : s.inHold = false) (form : readMove p = some (a, value, dir))
    (ready : Ready s l 0x21 p) (handled : moveAxis a value dir (s.dropFrame l) = h) :
    exec (.move l p) s = .next (replied h.state l 0x21 h.status h.data) := by
  show execMove l _ s = _
  unfold execMove
  refine take_replied ready ?_
  rw [form]
  simp only
  rw [needGrant_holder (s := s.dropFrame l) granted, needNormal_normal (s := s.dropFrame l) normal]
  exact handled

/-- Settles O28: the refusals by mode and flag, the destination by the kind of the axis and the direction. -/
theorem moveTakesDestination : Obligations.MoveTakesDestination := by
  intro s l a granted normal q c mayMove
  refine ⟨fun value dir len listed => ?refusals, fun may referenced => ?goes⟩
  case refusals =>
    intro p refused ready
    obtain ⟨x, d, form⟩ := readMove_some a len listed
    have refusal {st : Status} (why : trackRefusal c = some st) : refused st :=
      exec_move granted normal form ready (moveAxis_refused why)
    exact ⟨fun fault => refusal (trackRefusal_faulted fault),
      fun sound lost => refusal (trackRefusal_unreferenced sound lost),
      fun sound referenced other => refusal (trackRefusal_busy sound referenced other)⟩
  case goes =>
    intro within window taken goes
    have clamped (x : Int) : clampTravel a c.params x = taken x := clampTravel_eq a c.params x
    have goes_to {p : List Byte} {value x : Int} {d : MoveDirection} (form : readMove p = some (a, value, d))
        (ready : Ready s l 0x21 p) (there : moveDestination a c.p value d = x) : goes p x := by
      show exec (.move l p) s = _
      rw [exec_move granted normal form ready (moveAxis_goes (s := q) (trackRefusal_none referenced may) there), ← clamped]
      rfl
    refine ⟨fun kind x dir low high => ?bounded, fun kind value x low high angle => ?rotary⟩
    case bounded =>
      have direction : ∃ d, readMoveDirection (beBytes 1 dir.val) = some d := by fin_cases dir <;> exact ⟨_, rfl⟩
      obtain ⟨d, direction⟩ := direction
      intro p ready
      exact goes_to (readMove_bounded kind low high direction) ready (if_pos kind)
    case rotary =>
      obtain ⟨shortest, positive, negative⟩ := moveDestination_rotary (pos := c.p) kind angle
      refine ⟨fun near far ready => ?_, fun near far ready => ?_, fun near far ready => ?_⟩
      · exact goes_to (readMove_rotary (dir := 0) kind low high rfl) ready (shortest near far)
      · exact goes_to (readMove_rotary (dir := 1) kind low high rfl) ready (positive near far)
      · exact goes_to (readMove_rotary (dir := 2) kind low high rfl) ready (negative near far)

end Sys2Proof.Proofs
end

section
/-! PROOFS. SET AXIS PARAM in the terms of the statements (R92, R113 to R115). -/

namespace Sys2Proof.Proofs

open Machine Safety

/-! ### A value as it is read, taken and written (R92, R113) -/

theorem clamp_ne_iff {x lo hi : Int} (range : lo ≤ hi) : clamp x lo hi ≠ x ↔ x < lo ∨ hi < x := by
  rw [clamp_eq range]
  omega

/-- The parameters after a value that was read is written, and whether bringing it into its range changed it. -/
def valueTaken (a : Axis) (q : AxisParams) (v : ParamValue) : AxisParams × Bool :=
  (writeParam q (takeParam a q v), decide (takeParam a q v ≠ v))

/-- A number is brought into its range. -/
theorem valueTaken_fit {a : Axis} {q : AxisParams} {x : Int} (lo hi : Int) (range : lo ≤ hi) (value : Int → ParamValue)
    (apart : Function.Injective value) (taken : takeParam a q (value x) = value (clamp x lo hi)) :
    some (writeParam q (value (max lo (min x hi))), decide (x < lo ∨ hi < x)) = (some (value x)).map (valueTaken a q) := by
  simp only [Option.map_some, valueTaken, taken, ← clamp_ne_iff range, ← clamp_eq range, apart.ne_iff]

section Carried

variable {code : Nat} {x : Int} (carried : ParamCarried code x)
include carried

theorem beSigned_carried (signed : code ∈ [5, 6, 7]) : beSigned (beBytes 4 x) = x := by
  rw [ParamCarried, if_pos signed] at carried
  exact beSigned_beBytes (by norm_num; omega) (by norm_num; omega)

theorem beUnsigned_carried (unsigned : code ∉ [5, 6, 7]) : beUnsigned (beBytes 4 x) = x := by
  rw [ParamCarried, if_neg unsigned] at carried
  exact beUnsigned_beBytes carried.1 (by norm_num; omega)

theorem beNat_carried (unsigned : code ∉ [5, 6, 7]) (n : Nat) : beNat (beBytes 4 x) = n ↔ x = n := by
  have value : (beNat (beBytes 4 x) : Int) = x := beUnsigned_carried carried unsigned
  omega

/-- What the statement takes of a value is what the model reads of its bytes, code by code. The range of the home speed
needs a vmax of at least 1. -/
theorem paramTaken_eq (a : Axis) {q : AxisParams} (vmax : 1 ≤ q.vmax) :
    paramTaken a q code x = (readParamValue (bounded a) code (beBytes 4 x)).map (valueTaken a q) := by
  have signed := beSigned_carried carried
  have unsigned := beUnsigned_carried carried
  have natural := beNat_carried carried
  match code with
  | 0 =>
    simp only [readParamValue, unsigned (by decide)]
    exact valueTaken_fit 1 4194304 (by decide) .gear (fun _ _ => ParamValue.gear.inj) rfl
  | 1 =>
    simp only [readParamValue, unsigned (by decide)]
    exact valueTaken_fit 1 67108864 (by decide) .vmax (fun _ _ => ParamValue.vmax.inj) rfl
  | 2 =>
    simp only [readParamValue, unsigned (by decide)]
    exact valueTaken_fit 1 1048576 (by decide) .amax (fun _ _ => ParamValue.amax.inj) rfl
  | 3 =>
    simp only [readParamValue, unsigned (by decide)]
    exact valueTaken_fit 1 q.vmax vmax .homeSpeed (fun _ _ => ParamValue.homeSpeed.inj) rfl
  | 4 =>
    simp only [paramTaken, readParamValue, natural (by decide), Nat.cast_zero, Nat.cast_one]
    split_ifs <;> rfl
  | 5 =>
    simp only [paramTaken, readParamValue, signed (by decide)]
    cases kind : bounded a
    · exact valueTaken_fit _ _ (by decide) .indexOffset (fun _ _ => ParamValue.indexOffset.inj) (by simp [takeParam, kind])
    · exact valueTaken_fit _ _ (by decide) .indexOffset (fun _ _ => ParamValue.indexOffset.inj)
        (by simp [takeParam, kind, quarterTurn])
  | 6 =>
    simp only [paramTaken, readParamValue, signed (by decide)]
    cases bounded a
    · rfl
    · exact valueTaken_fit _ _ (by decide) .travelMin (fun _ _ => ParamValue.travelMin.inj) (by simp [takeParam, quarterTurn])
  | 7 =>
    simp only [paramTaken, readParamValue, signed (by decide)]
    cases bounded a
    · rfl
    · exact valueTaken_fit _ _ (by decide) .travelMax (fun _ _ => ParamValue.travelMax.inj) (by simp [takeParam, quarterTurn])
  | 8 =>
    simp only [paramTaken, readParamValue, unsigned (by decide)]
    cases bounded a
    · exact valueTaken_fit 0 8 (by decide) .wrapLimit (fun _ _ => ParamValue.wrapLimit.inj) rfl
    · rfl
  | 9 =>
    simp only [readParamValue, unsigned (by decide)]
    exact valueTaken_fit 0 2147483647 (by decide) .tolerance (fun _ _ => ParamValue.tolerance.inj) rfl
  | 10 =>
    simp only [paramTaken, readParamValue, natural (by decide), Nat.cast_zero, Nat.cast_ofNat]
    split_ifs <;> rfl
  | 11 =>
    simp only [paramTaken, readParamValue, natural (by decide), Nat.cast_zero, Nat.cast_one]
    split_ifs <;> rfl
  | _ + 12 => rfl

end Carried

/-- The parameters that a change ties REFERENCED to are those of codes 0 and 5 to 8 (R92, R115). -/
theorem tiesReference_of_read {isBounded : Bool} {code : Nat} {bytes : List Byte} {v : ParamValue}
    (read : readParamValue isBounded code bytes = some v) : tiesReference v = decide (code ∈ [0, 5, 6, 7, 8]) := by
  unfold readParamValue at read
  split at read <;> (try split_ifs at read) <;> cases read <;> rfl

theorem tiesReference_takeParam (a : Axis) (q : AxisParams) (v : ParamValue) :
    tiesReference (takeParam a q v) = tiesReference v := by
  cases v <;> rfl

/-! ### The channel after a change (R113, R115) -/

theorem paramAllowed_iff (c : AxisChannel) : paramAllowed c = true ↔ c.mode = .parked ∨ ∃ cause, c.mode = .fault cause := by
  unfold paramAllowed
  cases c.mode <;> simp

theorem changeParam_eq (c : AxisChannel) (v : ParamValue) :
    changeParam c v =
      let q := writeParam c.params v
      { c with
        params := q
        referenced := c.referenced && (decide (q = c.params) || !tiesReference v)
        d := if q.gear = c.params.gear then c.d else c.p * q.gear / 2 ^ 32 } := by
  unfold changeParam drivePosition
  rw [turn_eq]
  by_cases same : writeParam c.params v = c.params
  · simp [same]
  · simp [same]

/-! ### The request taken from the holder in NORMAL -/

/-- SET AXIS PARAM of one axis and a value read (R113 to R115). -/
def changeAxis (a : Axis) (v : ParamValue) (s : State) : Handled :=
  let c := s.axis a
  let y := takeParam a c.params v
  if !paramAllowed c then answer s .notParked
  else if !consistent a (writeParam c.params y) then answer s .inconsistent
  else answer (s.setAxis a (changeParam c y)) (clampedIf (decide (y ≠ v)))

section Checks

variable {s : State} {a : Axis} {v : ParamValue}

theorem changeAxis_notParked (moves : ¬ paramAllowed (s.axis a) = true) : changeAxis a v s = answer s .notParked :=
  if_pos (by simpa using moves)

theorem changeAxis_inconsistent (stands : paramAllowed (s.axis a) = true)
    (breaks : ¬ consistent a (writeParam (s.axis a).params (takeParam a (s.axis a).params v)) = true) :
    changeAxis a v s = answer s .inconsistent :=
  (if_neg (by simpa using stands)).trans (if_pos (by simpa using breaks))

theorem changeAxis_written (stands : paramAllowed (s.axis a) = true)
    (fits : consistent a (writeParam (s.axis a).params (takeParam a (s.axis a).params v)) = true) :
    let y := takeParam a (s.axis a).params v
    changeAxis a v s = answer (s.setAxis a (changeParam (s.axis a) y)) (clampedIf (decide (y ≠ v))) :=
  (if_neg (by simpa using stands)).trans (if_neg (by simpa using fits))

end Checks

section Taken

variable {s : State} {l : Link} {a : Axis} {code : Nat} {x : Int} (form : code < 256)
include form

theorem exec_setAxisParam_malformed (read : readParamValue (bounded a) code (beBytes 4 x) = none)
    (ready : Ready s l 0x23 (beBytes 1 a.val ++ beBytes 1 code ++ beBytes 4 x)) :
    exec (.setAxisParam l (beBytes 1 a.val ++ beBytes 1 code ++ beBytes 4 x)) s =
      .next (replied (s.dropFrame l) l 0x23 .malformed .none) := by
  show execSetAxisParam l _ s = _
  unfold execSetAxisParam
  rw [take_replied (k := kSetAxisParam) ready rfl, readAxisParam_beBytes a x form, read]
  rfl

theorem exec_setAxisParam {v : ParamValue} {h : Handled} (granted : s.grant.holder = some l) (normal : s.inHold = false)
    (read : readParamValue (bounded a) code (beBytes 4 x) = some v)
    (ready : Ready s l 0x23 (beBytes 1 a.val ++ beBytes 1 code ++ beBytes 4 x))
    (handled : changeAxis a v (s.dropFrame l) = h) :
    exec (.setAxisParam l (beBytes 1 a.val ++ beBytes 1 code ++ beBytes 4 x)) s =
      .next (replied h.state l 0x23 h.status h.data) := by
  show execSetAxisParam l _ s = _
  unfold execSetAxisParam
  refine take_replied ready ?_
  rw [readAxisParam_beBytes a x form, read]
  simp only [Option.map_some]
  rw [needGrant_holder (s := s.dropFrame l) granted, needNormal_normal (s := s.dropFrame l) normal]
  exact handled

end Taken

/-- Settles O30: the value as the statement takes it is the value read, and the checks follow in the order of R113 and R114. -/
theorem setAxisParamByParameter : Obligations.SetAxisParamByParameter := by
  intro s l a code x form carried legal granted normal p ready q c settable
  obtain ⟨_, ⟨vmax, _⟩, _⟩ := legal
  rw [paramTaken_eq carried a vmax, Option.map_eq_none_iff]
  refine ⟨fun read => exec_setAxisParam_malformed form read ready, fun taken clamped found => ?_⟩
  obtain ⟨v, read, same⟩ := Option.map_eq_some_iff.mp found
  obtain ⟨rfl, rfl⟩ := Prod.mk.inj same
  have taking {h : Handled} := exec_setAxisParam (h := h) form granted normal read ready
  have allowed : paramAllowed c = true ↔ settable := paramAllowed_iff c
  have fits := consistent_iff a (writeParam c.params (takeParam a c.params v))
  refine ⟨fun moves => ?_, fun stands breaks => ?_, fun stands holds => ?_⟩
  · exact taking (changeAxis_notParked (mt allowed.mp moves))
  · exact taking (changeAxis_inconsistent (allowed.mpr stands) (mt fits.mp breaks))
  · have ties : tiesReference (takeParam a c.params v) = decide (code ∈ [0, 5, 6, 7, 8]) := by
      rw [tiesReference_takeParam, tiesReference_of_read read]
    rw [taking (changeAxis_written (allowed.mpr stands) (fits.mpr holds)), ← ties, ← changeParam_eq]
    rfl

end Sys2Proof.Proofs
end

section
/-! PROOFS. Report events and REPORT INTERVAL in the terms of the statements (R117, R194, R195). -/

namespace Sys2Proof.Proofs

open Machine Safety

/-! ### The report (R117, R195) -/

theorem isFault_iff (m : Mode) : m.isFault = true ↔ ∃ cause, m = .fault cause := by
  cases m <;> simp [Mode.isFault]

theorem collectReport_axis (s : State) (a : Axis) : (collectReport s).axes.get a = reportAxis a (s.axis a) :=
  Table.get_build _ a

/-- With reporting OFF there is no report event (R194). -/
theorem exec_reportEvent_off {s : State} {l : Link} (off : (s.link l).reporting = .off) :
    exec (.reportEvent l) s = .next s := by
  show execReportEvent l s = _
  rw [execReportEvent, off]

/-- With time left there is no report event yet (R194). -/
theorem exec_reportEvent_early {s : State} {l : Link} {i : ReportEvery} {left : Nat}
    (waits : (s.link l).reporting = .every i (left + 1)) : exec (.reportEvent l) s = .next s := by
  show execReportEvent l s = _
  rw [execReportEvent, waits]

theorem exec_reportEvent {s : State} {l : Link} {i : ReportEvery} (due : (s.link l).reporting = .every i 0) :
    exec (.reportEvent l) s =
      .next (s.setLink l { s.link l with report := some (collectReport s), reporting := .every i i.ms }) := by
  show execReportEvent l s = _
  rw [execReportEvent, due]

/-! ### REPORT INTERVAL (R194) -/

/-- A value other than the six listed is malformed. -/
theorem readReportInterval_none {b : Byte} (other : b.toNat ∉ [0, 10, 20, 50, 100, 200]) : readReportInterval [b] = none := by
  simp only [List.mem_cons, List.not_mem_nil, or_false, not_or] at other
  obtain ⟨h0, h10, h20, h50, h100, h200⟩ := other
  rw [readReportInterval, ofLength_eq (by rfl), beNat_singleton]
  split
  next h => exact absurd h h0
  next h => exact absurd h h10
  next h => exact absurd h h20
  next h => exact absurd h h50
  next h => exact absurd h h100
  next h => exact absurd h h200
  next => rfl

/-- The reports of a link by the interval read (R194). -/
def setInterval (l : Link) (s : State) : Option (Option ReportEvery) → Handled
  | none => answer s .malformed
  | some none => answer (s.setLink l { s.link l with reporting := .off, report := none }) .ok
  | some (some i) => answer (s.setLink l { s.link l with reporting := .every i i.ms }) .ok

theorem exec_reportInterval {s : State} {l : Link} {p : List Byte} {x : Option (Option ReportEvery)}
    (read : readReportInterval p = x) (ready : Ready s l 0x49 p) :
    let h := setInterval l (s.dropFrame l) x
    exec (.reportInterval l p) s = .next (replied h.state l 0x49 h.status h.data) := by
  intro h
  show execReportInterval l _ s = _
  unfold execReportInterval
  refine take_replied ready ?_
  rw [read]
  rcases x with _ | _ | i <;> rfl

/-- Settles O46, event by event and interval by interval. -/
theorem reportsAreCollected : Obligations.ReportsAreCollected := by
  intro s l q
  refine ⟨exec_reportEvent_off, fun _ _ => exec_reportEvent_early,
    fun i due => ⟨collectReport s, exec_reportEvent due, rfl, rfl, rfl, rfl, rfl, rfl, fun a => ?_⟩, fun ready => ?_,
    fun i ready => ?_, fun b other ready => ?_⟩
  · rw [collectReport_axis]
    exact ⟨by simp only [reportAxis, wrap, turn_eq], rfl, rfl, rfl, isFault_iff _⟩
  · exact exec_reportInterval (x := some none) rfl ready
  · exact exec_reportInterval (readReportInterval_ms i) ready
  · exact exec_reportInterval (readReportInterval_none other) ready

end Sys2Proof.Proofs
end

section
/-! PROOFS. The law of one axis channel in two parts, what its mode asks and what its other fields keep, and each change of
a channel that keeps it (R90 to R94, R100 to R118, R128 to R141, R149, R157). -/

namespace Sys2Proof.Proofs

open Machine Safety

/-! ### The law in two parts -/

/-- What a remembered prior mode asks of the channel: the REFERENCED flag that the mode returned to needs, and homing
distances that are not negative (R131, R136). -/
def PriorFits (referenced : Bool) : PriorMode → Prop
  | .track | .move _ => referenced = true
  | .homing h => referenced = false ∧ 0 ≤ h.seekDistance ∧ 0 ≤ h.creepDistance
  | .parked | .held => True

/-- What a mode asks of the drive, v, the flags and the homing distances. -/
def ModeFits (c : AxisChannel) : Mode → Prop
  | .parked | .held => c.driveEnabled = true ∧ c.lagging = false ∧ c.v = 0
  | .track => c.driveEnabled = true ∧ c.referenced = true
  | .move _ => c.driveEnabled = true ∧ c.lagging = false ∧ c.referenced = true
  | .homing h =>
    c.driveEnabled = true ∧ c.lagging = false ∧ c.referenced = false ∧ 0 ≤ h.seekDistance ∧ 0 ≤ h.creepDistance
  | .stopping _ => c.driveEnabled = true ∧ c.lagging = false
  | .recovering prior _ => c.driveEnabled = false ∧ c.lagging = false ∧ c.v = 0 ∧ PriorFits c.referenced prior
  | .fault _ => c.driveEnabled = false ∧ c.lagging = false ∧ c.v = 0 ∧ c.referenced = false

/-- A velocity within vmax (R100). -/
def InSpeed (q : AxisParams) (v : Int) : Prop := -q.vmax ≤ v ∧ v ≤ q.vmax

/-- What the channel keeps in every mode: legal parameters, v within vmax, a REFERENCED axis within its travel, D from P, the
trip count with its window, and no switch of a rotary axis seen. -/
def BodyFits (a : Axis) (c : AxisChannel) : Prop :=
  ParamsLegal a c.params ∧ InSpeed c.params c.v ∧ (c.referenced = true → InTravel a c.params c.p) ∧
  c.d = c.p * c.params.gear / turn ∧ (c.tripCount ≤ 3 ∧ (c.tripWindow.isSome = true ↔ 0 < c.tripCount)) ∧
  (bounded a = false → c.switchLow = false ∧ c.switchHigh = false)

theorem priorFits_iff (referenced : Bool) (prior : PriorMode) :
    PriorFits referenced prior ↔ ReferenceFits referenced (modeOfPrior prior) ∧ DistancesFit (modeOfPrior prior) := by
  cases prior <;> simp [PriorFits, modeOfPrior, ReferenceFits, DistancesFit]

theorem modeFits_iff (c : AxisChannel) :
    ModeFits c c.mode ↔
      (c.driveEnabled = true ↔ ¬ DriveOff c.mode) ∧ (AtRest c.mode → c.v = 0) ∧
      ReferenceFits c.referenced (effectiveMode c.mode) ∧ DistancesFit (effectiveMode c.mode) ∧
      (c.lagging = true → c.mode = .track) := by
  cases mode : c.mode with
  | recovering prior left =>
    have fits := priorFits_iff c.referenced prior
    simp only [ModeFits, DriveOff, AtRest, effectiveMode]
    cases c.driveEnabled <;> cases c.lagging <;> simp [fits]
  | parked | held | track | move | homing | stopping | fault =>
    simp only [ModeFits, DriveOff, AtRest, effectiveMode, ReferenceFits, DistancesFit]
    cases c.driveEnabled <;> cases c.lagging <;> simp

theorem channelLaw_iff (a : Axis) (c : AxisChannel) : ChannelLaw a c ↔ BodyFits a c ∧ ModeFits c c.mode := by
  rw [modeFits_iff]
  constructor
  · rintro ⟨legal, drive, rest, speed, reference, distances, lag, travel, d, count, window, switches⟩
    exact ⟨⟨legal, speed, travel, d, ⟨count, window⟩, switches⟩, drive, rest, reference, distances, lag⟩
  · rintro ⟨⟨legal, speed, travel, d, ⟨count, window⟩, switches⟩, drive, rest, reference, distances, lag⟩
    exact ⟨legal, drive, rest, speed, reference, distances, lag, travel, d, count, window, switches⟩

/-- What the mode asks of a lawful channel, read at the mode that it has. -/
theorem modeFits_of_lawful {a : Axis} {c : AxisChannel} (law : ChannelLaw a c) {m : Mode} (mode : c.mode = m) :
    ModeFits c m := mode ▸ ((channelLaw_iff a c).mp law).2

theorem bodyFits_of_lawful {a : Axis} {c : AxisChannel} (law : ChannelLaw a c) : BodyFits a c := ((channelLaw_iff a c).mp law).1

/-- A channel is lawful where its mode and its other fields fit. -/
theorem BodyFits.lawful {a : Axis} {c : AxisChannel} (body : BodyFits a c) (mode : ModeFits c c.mode) : ChannelLaw a c :=
  (channelLaw_iff a c).mpr ⟨body, mode⟩

/-! ### The other fields under a stop, a lost reference and a trip -/

section Body

variable {a : Axis} {c : AxisChannel} (body : BodyFits a c)
include body

theorem BodyFits.still : BodyFits a { c with v := 0 } := by
  obtain ⟨legal, _, rest⟩ := body
  have ⟨_, ⟨vmax, _⟩, _⟩ := legal
  exact ⟨legal, ⟨show -c.params.vmax ≤ 0 by omega, show 0 ≤ c.params.vmax by omega⟩, rest⟩

theorem BodyFits.unreferenced : BodyFits a { c with referenced := false } := by
  obtain ⟨legal, speed, _, rest⟩ := body
  exact ⟨legal, speed, nofun, rest⟩

/-- A counted trip starts the window with the first of a count (R131, R134). -/
theorem BodyFits.counted : BodyFits a (counted c) := by
  obtain ⟨legal, speed, travel, d, ⟨count, window⟩, switches⟩ := body
  refine ⟨legal, speed, travel, d, ⟨?_, ?_⟩, switches⟩
  · exact min_le_right _ _
  · have positive : 0 < min (c.tripCount + 1) 3 := by omega
    refine iff_of_true ?_ positive
    show (if c.tripCount = 0 then some 1000 else c.tripWindow).isSome = true
    split
    · rfl
    next trips => exact window.mpr (Nat.pos_of_ne_zero trips)

/-- A count that starts anew has no window (R137, R141). -/
theorem BodyFits.uncounted : BodyFits a { c with tripCount := 0, tripWindow := none } := by
  obtain ⟨legal, speed, travel, d, _, switches⟩ := body
  exact ⟨legal, speed, travel, d, ⟨Nat.zero_le 3, by simp⟩, switches⟩

/-- A channel driven to a new position and velocity: D follows P (R104). -/
theorem BodyFits.driven {p v : Int} (speed : InSpeed c.params v) (travel : c.referenced = true → InTravel a c.params p) :
    BodyFits a (driven c p v) := by
  obtain ⟨legal, _, _, _, rest⟩ := body
  exact ⟨legal, speed, travel, by simp only [Safety.driven, turn_eq], rest⟩

end Body

/-! ### Velocities and positions of an update (R94, R99 to R102, R120) -/

theorem speedLimit_range (s : State) {a : Axis} {c : AxisChannel} (body : BodyFits a c) :
    0 ≤ speedLimit s c ∧ speedLimit s c ≤ c.params.vmax := by
  obtain ⟨⟨_, ⟨vmax, _⟩, _⟩, _⟩ := body
  unfold speedLimit
  split <;> omega

/-- A velocity brought toward a desired one by at most amax stays within vmax where both are (R100). -/
theorem inSpeed_slew {q : AxisParams} {v desired : Int} (amax : 1 ≤ q.amax) (speed : InSpeed q v) (goal : InSpeed q desired) :
    InSpeed q (v + clamp (desired - v) (-q.amax) q.amax) := by
  unfold InSpeed clamp at *
  split_ifs <;> omega

theorem inSpeed_freeStep {q : AxisParams} {v p desired : Int} (amax : 1 ≤ q.amax) (speed : InSpeed q v)
    (goal : InSpeed q desired) : InSpeed q (freeStep q.amax v p desired).2 :=
  inSpeed_slew amax speed goal

/-- The desired velocity of an error stays within the limit (R99). -/
theorem inSpeed_desired {q : AxisParams} {limit e : Int} (root : Nat) (range : 0 ≤ limit ∧ limit ≤ q.vmax) :
    InSpeed q (e.sign * min limit (root : Int)) := by
  unfold InSpeed
  rcases lt_trichotomy e 0 with h | rfl | h
  · rw [Int.sign_eq_neg_one_of_neg h]; omega
  · rw [Int.sign_zero]; omega
  · rw [Int.sign_eq_one_of_pos h]; omega

/-- At an arrival v is the error, which the new velocity covers (R101). -/
theorem inSpeed_profileStep {q : AxisParams} {limit v p e : Int} (amax : 1 ≤ q.amax) (speed : InSpeed q v)
    (range : 0 ≤ limit ∧ limit ≤ q.vmax) : InSpeed q (profileStep q.amax limit v p e).2 := by
  have slewed := inSpeed_slew amax speed (inSpeed_desired (e := e) (Nat.sqrt (2 * q.amax * |e|).toNat) range)
  unfold profileStep
  simp only
  split
  next arrived =>
    have covered : |e| ≤ q.vmax := by
      rcases arrived with rfl | ⟨_, _, covered⟩
      · rw [abs_zero]; omega
      · exact covered.trans (abs_le.mpr slewed)
    exact abs_le.mp covered
  next => exact slewed

theorem travelRange_le {a : Axis} {q : AxisParams} (legal : ParamsLegal a q) {lo hi : Int}
    (range : travelRange a q = some (lo, hi)) : lo ≤ hi := by
  obtain ⟨_, _, _, _, _, _, _, travel⟩ := legal
  unfold travelRange turn at range
  split_ifs at range with kind window <;> cases range
  · have := travel kind
    omega
  · omega

/-- The clamp to the travel keeps a velocity within vmax, and brings a REFERENCED axis into its travel (R102). -/
theorem limitTravel_fits {a : Axis} {c : AxisChannel} (legal : ParamsLegal a c.params) {p v : Int}
    (speed : InSpeed c.params v) :
    InSpeed c.params (limitTravel a c (p, v)).2.1 ∧
      (c.referenced = true → InTravel a c.params (limitTravel a c (p, v)).1) := by
  have ⟨_, ⟨vmax, _⟩, _⟩ := legal
  have rest : InSpeed c.params 0 := ⟨by omega, by omega⟩
  unfold limitTravel InTravel
  cases referenced : c.referenced with
  | false => exact ⟨speed, nofun⟩
  | true =>
    cases range : travelRange a c.params with
    | none => exact ⟨speed, nofun⟩
    | some r =>
      obtain ⟨lo, hi⟩ := r
      have order := travelRange_le legal range
      simp only [if_true]
      split_ifs with low high
      · exact ⟨rest, fun _ => by rintro _ _ ⟨⟩; omega⟩
      · exact ⟨rest, fun _ => by rintro _ _ ⟨⟩; omega⟩
      · exact ⟨speed, fun _ => by rintro _ _ ⟨⟩; omega⟩

/-- A step, the clamp to the travel and the drive keep the other fields. -/
theorem BodyFits.moved {a : Axis} {c : AxisChannel} (body : BodyFits a c) {x : Int × Int} (speed : InSpeed c.params x.2) :
    BodyFits a (Safety.driven c (limitTravel a c x).1 (limitTravel a c x).2.1) :=
  have ⟨speed, travel⟩ := limitTravel_fits (p := x.1) body.1 speed
  body.driven speed travel

end Sys2Proof.Proofs
end

section
/-! PROOFS. The changes of one channel by requests, hold entry, RESUME, edges, trips and the passing of time keep its law
(R107 to R119, R128 to R141, R149, R157). -/

namespace Sys2Proof.Proofs

open Machine Safety

/-! ### The parameters (R85, R92, R113, R114) -/

/-- Each parameter within its range, apart from the conditions of consistency (R92). -/
def ParamsInRange (a : Axis) (q : AxisParams) : Prop :=
  (1 ≤ q.gear ∧ q.gear ≤ 4194304) ∧ (1 ≤ q.vmax ∧ q.vmax ≤ 67108864) ∧ (1 ≤ q.amax ∧ q.amax ≤ 1048576) ∧
  (1 ≤ q.homeSpeed ∧ q.homeSpeed ≤ q.vmax) ∧ (0 ≤ q.wrapLimit ∧ q.wrapLimit ≤ 8) ∧
  (0 ≤ q.tolerance ∧ q.tolerance ≤ 2147483647) ∧
  (bounded a = false → -2147483648 ≤ q.indexOffset ∧ q.indexOffset ≤ 2147483647) ∧
  (bounded a = true → -quarterTurn ≤ q.travelMin ∧ q.travelMax ≤ quarterTurn)

theorem paramsLegal_iff (a : Axis) (q : AxisParams) : ParamsLegal a q ↔ ParamsInRange a q ∧ ParamsConsistent a q := by
  constructor
  · rintro ⟨gear, vmax, amax, home, wrapLimit, tolerance, index, travel⟩
    refine ⟨⟨gear, vmax, amax, home, wrapLimit, tolerance, index, fun kind => ?_⟩, fun kind => ?_⟩
    · obtain ⟨low, _, high, _⟩ := travel kind
      exact ⟨low, high⟩
    · obtain ⟨_, order, _, inside⟩ := travel kind
      exact ⟨order, inside⟩
  · rintro ⟨⟨gear, vmax, amax, home, wrapLimit, tolerance, index, travel⟩, fits⟩
    refine ⟨gear, vmax, amax, home, wrapLimit, tolerance, index, fun kind => ?_⟩
    exact ⟨(travel kind).1, (fits kind).1, (travel kind).2, (fits kind).2⟩

/-- A value brought into its range keeps every parameter in range; a vmax below the home speed lowers it (R113, R115). -/
theorem writeParam_inRange {a : Axis} {q : AxisParams} (range : ParamsInRange a q) (v : ParamValue) :
    ParamsInRange a (writeParam q (takeParam a q v)) := by
  obtain ⟨gear, vmax, amax, home, wrapLimit, tolerance, index, travel⟩ := range
  cases v with
  | gear x => exact ⟨clamp_range (by decide), vmax, amax, home, wrapLimit, tolerance, index, travel⟩
  | vmax x =>
    have fast : 1 ≤ clamp x 1 67108864 ∧ clamp x 1 67108864 ≤ 67108864 := clamp_range (by decide)
    refine ⟨gear, fast, amax, ⟨?_, ?_⟩, wrapLimit, tolerance, index, travel⟩
    · exact le_min home.1 fast.1
    · exact min_le_right _ _
  | amax x => exact ⟨gear, vmax, clamp_range (by decide), home, wrapLimit, tolerance, index, travel⟩
  | homeSpeed x => exact ⟨gear, vmax, amax, clamp_range vmax.1, wrapLimit, tolerance, index, travel⟩
  | homeDirection x => exact ⟨gear, vmax, amax, home, wrapLimit, tolerance, index, travel⟩
  | indexOffset x =>
    refine ⟨gear, vmax, amax, home, wrapLimit, tolerance, fun kind => ?_, travel⟩
    simp only [takeParam, writeParam, kind]
    exact clamp_range (by decide)
  | travelMin x =>
    exact ⟨gear, vmax, amax, home, wrapLimit, tolerance, index,
      fun kind => ⟨(clamp_range (by decide)).1, (travel kind).2⟩⟩
  | travelMax x =>
    exact ⟨gear, vmax, amax, home, wrapLimit, tolerance, index,
      fun kind => ⟨(travel kind).1, (clamp_range (by decide)).2⟩⟩
  | wrapLimit x => exact ⟨gear, vmax, amax, home, clamp_range (by decide), tolerance, index, travel⟩
  | tolerance x => exact ⟨gear, vmax, amax, home, wrapLimit, clamp_range (by decide), index, travel⟩
  | tripFilter x => exact ⟨gear, vmax, amax, home, wrapLimit, tolerance, index, travel⟩
  | recovery x => exact ⟨gear, vmax, amax, home, wrapLimit, tolerance, index, travel⟩

/-- An axis block as taken lies in its ranges, whatever bytes it holds (R85). -/
theorem readBlock_inRange (a : Axis) (b : List Byte) : ParamsInRange a (readBlock a b) := by
  have vmax : 1 ≤ clamp (beUnsigned (field b 3 4)) 1 67108864 ∧ clamp (beUnsigned (field b 3 4)) 1 67108864 ≤ 67108864 :=
    clamp_range (by decide)
  refine ⟨clamp_range (by decide), vmax, clamp_range (by decide), clamp_range vmax.1, ?_, ?_,
    fun kind => ?_, fun kind => ?_⟩
  · simp only [readBlock]
    split
    · decide
    · exact clamp_range (by decide)
  · simp only [readBlock]
    exact clamp_range (by decide)
  · simp only [readBlock, kind]
    exact clamp_range (by decide)
  · have low (x : Int) : -quarterTurn ≤ clamp x (-quarterTurn) quarterTurn := (clamp_range (by decide)).1
    have high (x : Int) : clamp x (-quarterTurn) quarterTurn ≤ quarterTurn := (clamp_range (by decide)).2
    simp only [readBlock, kind]
    exact ⟨low _, high _⟩

theorem loadAxis_legal (record : List Byte) (a : Axis) : ParamsLegal a (loadAxis record a) := by
  obtain ⟨taken, defaults⟩ := loadAxis_cases record a
  by_cases fits : ParamsConsistent a (readBlock a (field record (33 * a.val) 33))
  · rw [taken fits]
    exact (paramsLegal_iff a _).mpr ⟨readBlock_inRange a _, fits⟩
  · rw [defaults fits]
    exact builtIn_legal a

/-- Start-up takes legal parameters for every axis from any record (R85, R93). -/
theorem startParams_legal (record : List Byte) (a : Axis) : ParamsLegal a ((startParams record).axes.get a) := by
  unfold startParams loadParams
  split
  · rw [Option.getD_some, Table.get_build]
    exact loadAxis_legal record a
  · rw [Option.getD_none, ParamSet.builtIn, Table.get_replicate]
    exact builtIn_legal a

/-- A channel after device reset (R91, R131). -/
theorem resetAxis_lawful {a : Axis} {q : AxisParams} (legal : ParamsLegal a q) : ChannelLaw a (resetAxis q) := by
  have ⟨_, ⟨vmax, _⟩, _⟩ := legal
  refine BodyFits.lawful ⟨legal, ⟨?_, ?_⟩, nofun, rfl, ⟨Nat.zero_le 3, by simp [resetAxis, AxisChannel.reset]⟩, fun _ => ⟨rfl, rfl⟩⟩
    ⟨rfl, rfl, rfl⟩
  · show -q.vmax ≤ 0
    omega
  · show 0 ≤ q.vmax
    omega

/-! ### Requests (R107 to R119, R141) -/

/-- The range an axis may travel rests on parameters that tie REFERENCED alone (R115). -/
theorem travelRange_writeParam {a : Axis} {q : AxisParams} {v : ParamValue} (free : tiesReference v = false) :
    travelRange a (writeParam q v) = travelRange a q := by
  cases v with
  | gear | indexOffset | travelMin | travelMax | wrapLimit => cases free
  | vmax | amax | homeSpeed | homeDirection | tolerance | tripFilter | recovery => rfl

/-- A mode that was remembered is taken up again by an axis at rest with its drive enabled. -/
theorem modeFits_modeOfPrior {c : AxisChannel} {prior : PriorMode} (fits : PriorFits c.referenced prior)
    (drive : c.driveEnabled = true) (lag : c.lagging = false) (rest : c.v = 0) : ModeFits c (modeOfPrior prior) := by
  cases prior with
  | parked | held => exact ⟨drive, lag, rest⟩
  | track => exact ⟨drive, fits⟩
  | move => exact ⟨drive, lag, fits⟩
  | homing => exact ⟨drive, lag, fits⟩

/-- RESUME restores a mode that follows or moves on a REFERENCED axis alone (R157). -/
theorem restoredMode_fits (a : Axis) (sv : SavedAxis) (c : AxisChannel) : PriorFits c.referenced (restoredMode a sv c) := by
  unfold restoredMode
  split
  next referenced =>
    split
    · exact referenced
    · exact referenced
    · trivial
  next => trivial

section Channel

variable {a : Axis} {c : AxisChannel} (law : ChannelLaw a c)
include law

/-- A mode that TRACK and MOVE start from has its drive enabled. -/
theorem driven_of_follow (may : FollowMode c.mode) : c.driveEnabled = true := by
  rcases may with mode | mode | ⟨x, mode⟩ | ⟨next, mode⟩ <;> exact (modeFits_of_lawful law mode).1

theorem enterTrack_lawful (referenced : c.referenced = true) (may : FollowMode c.mode) : ChannelLaw a (enterTrack c) := by
  have body := bodyFits_of_lawful law
  have drive := driven_of_follow law may
  rw [enterTrack_eq]
  split
  · exact law
  · exact BodyFits.lawful (c := { c with mode := .track, lagging := false }) body ⟨drive, referenced⟩

theorem enterMove_lawful (referenced : c.referenced = true) (may : FollowMode c.mode) (x : Int) :
    ChannelLaw a (enterMove x c) := by
  have body := bodyFits_of_lawful law
  have drive := driven_of_follow law may
  exact BodyFits.lawful (c := enterMove x c) body ⟨drive, rfl, referenced⟩

theorem parkAxis_lawful : ChannelLaw a (parkAxis c) := by
  have body := bodyFits_of_lawful law
  have stops (drive : c.driveEnabled = true) : ChannelLaw a { c with mode := .stopping .parked, lagging := false } :=
    BodyFits.lawful (c := { c with mode := .stopping .parked, lagging := false }) body ⟨drive, rfl⟩
  unfold parkAxis
  cases mode : c.mode with
  | parked | held | fault => exact law
  | track | move | homing => exact stops (modeFits_of_lawful law mode).1
  | stopping next =>
    exact BodyFits.lawful (c := { c with mode := .stopping .parked }) body (modeFits_of_lawful law mode)
  | recovering prior left =>
    obtain ⟨drive, lag, rest, _⟩ := modeFits_of_lawful law mode
    exact BodyFits.lawful (c := { c with mode := .recovering .parked left }) body ⟨drive, lag, rest, trivial⟩

theorem startHoming_lawful (mode : c.mode = .parked) : ChannelLaw a (startHoming c) := by
  have lost := (bodyFits_of_lawful law).unreferenced
  obtain ⟨drive, lag, _⟩ := modeFits_of_lawful law mode
  exact BodyFits.lawful (c := startHoming c) lost ⟨drive, lag, rfl, le_refl 0, le_refl 0⟩

theorem clearedFault_lawful (fault : c.mode.isFault = true) : ChannelLaw a (clearedFault c) := by
  obtain ⟨cause, mode⟩ := (isFault_iff c.mode).mp fault
  obtain ⟨_, lag, _⟩ := modeFits_of_lawful law mode
  obtain ⟨legal, speed, travel, d, counts, _⟩ := (bodyFits_of_lawful law).still.uncounted
  exact BodyFits.lawful (c := clearedFault c) ⟨legal, speed, travel, d, counts, fun _ => ⟨rfl, rfl⟩⟩ ⟨rfl, lag, rfl⟩

/-- A parameter changed on an axis that stands: REFERENCED is kept only where the travel stands, and D follows a change of
gear (R113 to R115). -/
theorem changeParam_lawful (may : paramAllowed c = true) (v : ParamValue)
    (fits : consistent a (writeParam c.params (takeParam a c.params v)) = true) :
    ChannelLaw a (changeParam c (takeParam a c.params v)) := by
  obtain ⟨legal, _, travel, d, counts, switches⟩ := bodyFits_of_lawful law
  have range := ((paramsLegal_iff a c.params).mp legal).1
  have written := (paramsLegal_iff a _).mpr ⟨writeParam_inRange range v, (consistent_iff a _).mp fits⟩
  have rest : c.v = 0 := by
    rcases (paramAllowed_iff c).mp may with mode | ⟨cause, mode⟩
    · exact (modeFits_of_lawful law mode).2.2
    · exact (modeFits_of_lawful law mode).2.2.1
  rw [changeParam_eq]
  refine BodyFits.lawful ⟨written, ?speed, ?travel, ?d, counts, switches⟩ ?mode
  case speed =>
    obtain ⟨_, ⟨vmax, _⟩, _⟩ := written
    simp only [InSpeed, rest]
    omega
  case travel =>
    intro kept
    simp only [Bool.and_eq_true, Bool.or_eq_true, decide_eq_true_eq, Bool.not_eq_true'] at kept
    obtain ⟨referenced, same⟩ := kept
    have range : travelRange a (writeParam c.params (takeParam a c.params v)) = travelRange a c.params := by
      rcases same with same | free
      · rw [same]
      · exact travelRange_writeParam free
    intro lo hi here
    exact travel referenced lo hi (range ▸ here)
  case d =>
    simp only [turn_eq] at d ⊢
    split
    next same => rw [same]; exact d
    next => rfl
  case mode =>
    show ModeFits _ c.mode
    rcases (paramAllowed_iff c).mp may with mode | ⟨cause, mode⟩
    · have fits := modeFits_of_lawful law mode
      rw [mode]
      exact fits
    · obtain ⟨drive, lag, _, lost⟩ := modeFits_of_lawful law mode
      rw [mode]
      exact ⟨drive, lag, rest, by simp only [lost, Bool.false_and]⟩

/-! ### Hold entry and RESUME (R149, R157) -/

theorem holdTreat_lawful : ChannelLaw a (holdTreat c) := by
  have body := bodyFits_of_lawful law
  unfold holdTreat
  cases mode : c.mode with
  | held | fault => exact law
  | parked => exact BodyFits.lawful (c := { c with mode := .held }) body (modeFits_of_lawful law mode)
  | track =>
    obtain ⟨drive, _⟩ := modeFits_of_lawful law mode
    exact BodyFits.lawful (c := { c with mode := .stopping .held, lagging := false }) body ⟨drive, rfl⟩
  | move x =>
    obtain ⟨drive, lag, _⟩ := modeFits_of_lawful law mode
    exact BodyFits.lawful (c := { c with mode := .stopping .held }) body ⟨drive, lag⟩
  | homing h =>
    obtain ⟨drive, lag, _⟩ := modeFits_of_lawful law mode
    have lost := body.unreferenced
    exact BodyFits.lawful (c := { c with mode := .stopping .held, referenced := false }) lost ⟨drive, lag⟩
  | stopping next =>
    exact BodyFits.lawful (c := { c with mode := .stopping .held }) body (modeFits_of_lawful law mode)
  | recovering prior left =>
    obtain ⟨drive, lag, rest, _⟩ := modeFits_of_lawful law mode
    exact BodyFits.lawful (c := { c with mode := .recovering .held left }) body ⟨drive, lag, rest, trivial⟩

theorem restoreAxis_lawful (sv : SavedAxis) : ChannelLaw a (restoreAxis a sv c) := by
  have body := bodyFits_of_lawful law
  have prior := restoredMode_fits a sv c
  unfold restoreAxis
  split
  next mode =>
    obtain ⟨drive, _, _⟩ := modeFits_of_lawful law mode
    have still := body.still
    exact BodyFits.lawful (c := { c with mode := modeOfPrior (restoredMode a sv c), v := 0, lagging := false }) still
      (modeFits_modeOfPrior prior drive rfl rfl)
  next mode =>
    obtain ⟨drive, lag⟩ := modeFits_of_lawful law mode
    split
    next restored =>
      rw [restored] at prior
      exact BodyFits.lawful (c := { c with mode := .track, lagging := false }) body ⟨drive, prior⟩
    next x restored =>
      rw [restored] at prior
      exact BodyFits.lawful (c := { c with mode := .move x, lagging := false }) body ⟨drive, rfl, prior⟩
    next => exact BodyFits.lawful (c := { c with mode := .stopping .parked }) body ⟨drive, lag⟩
  next left mode =>
    obtain ⟨drive, lag, rest, _⟩ := modeFits_of_lawful law mode
    exact BodyFits.lawful (c := { c with mode := .recovering (restoredMode a sv c) left }) body ⟨drive, lag, rest, prior⟩
  next => exact law

/-! ### Edges, time and switches (R121, R125, R131, R136, R139) -/

/-- An index edge moves P only in CREEP, where the axis has no reference (R125). -/
theorem indexEdge_lawful : ChannelLaw a (indexEdge c) := by
  have body := bodyFits_of_lawful law
  unfold indexEdge
  split
  next h mode =>
    obtain ⟨drive, lag, lost, distances⟩ := modeFits_of_lawful law mode
    split
    next => exact BodyFits.lawful (c := { c with mode := .homing _ }) body ⟨drive, lag, lost, distances⟩
    next =>
      split
      next =>
        obtain ⟨legal, speed, _, _, rest⟩ := body
        exact BodyFits.lawful (c := { c with mode := .homing _, p := _, d := _ })
          ⟨legal, speed, fun referenced => absurd (lost.symm.trans referenced) (by decide), rfl, rest⟩
          ⟨drive, lag, lost, distances⟩
      next => exact law
    next => exact law
    next => exact law
  next => exact law

theorem elapse_lawful : ChannelLaw a c.elapse := by
  obtain ⟨legal, speed, travel, d, ⟨count, window⟩, switches⟩ := bodyFits_of_lawful law
  have runs : (c.tripWindow.map (· - 1)).isSome = true ↔ 0 < c.tripCount := by rw [Option.isSome_map]; exact window
  refine BodyFits.lawful ⟨legal, speed, travel, d, ⟨count, runs⟩, switches⟩ ?_
  unfold AxisChannel.elapse
  cases mode : c.mode with
  | recovering prior left => exact modeFits_of_lawful law mode
  | parked | held | track | move | homing | stopping | fault => exact modeFits_of_lawful law mode

/-- An end switch of a bounded axis (R139). -/
theorem switchFault_lawful (kind : bounded a = true) (side : Side) : ChannelLaw a (switchFault side c) := by
  obtain ⟨legal, speed, travel, d, counts, _⟩ := (bodyFits_of_lawful law).still.unreferenced
  exact BodyFits.lawful (c := switchFault side c)
    ⟨legal, speed, travel, d, counts, fun rotary => absurd (kind.symm.trans rotary) (by decide)⟩ ⟨rfl, rfl, rfl, rfl⟩

/-! ### Trips (R133 to R138) -/

/-- The prior mode remembered at a trip (R135). -/
theorem priorOf_fits : PriorFits c.referenced (priorOf c.mode) := by
  cases mode : c.mode with
  | parked | held | fault => trivial
  | stopping next => cases next <;> trivial
  | track => exact (modeFits_of_lawful law mode).2
  | move => exact (modeFits_of_lawful law mode).2.2
  | homing => exact (modeFits_of_lawful law mode).2.2
  | recovering => exact (modeFits_of_lawful law mode).2.2.2

/-- The trip count that starts anew at the end of its window (R137). -/
theorem uncounted_lawful : ChannelLaw a { c with tripCount := 0, tripWindow := none } :=
  have body := (bodyFits_of_lawful law).uncounted
  have fits := modeFits_of_lawful law rfl
  BodyFits.lawful body (by revert fits; cases mode : c.mode <;> exact id)

/-- The retry time over with the line quiet: the axis returns to its prior mode at rest (R136). -/
theorem returned_lawful {prior : PriorMode} {left : Nat} (mode : c.mode = .recovering prior left) :
    ChannelLaw a { c with mode := modeOfPrior prior, lagging := false, v := 0, driveEnabled := true } := by
  obtain ⟨_, _, _, fits⟩ := modeFits_of_lawful law mode
  have still := (bodyFits_of_lawful law).still
  exact BodyFits.lawful (c := { c with mode := modeOfPrior prior, lagging := false, v := 0, driveEnabled := true }) still
    (modeFits_modeOfPrior fits rfl rfl rfl)

end Channel

section Trips

variable {a : Axis} {c : AxisChannel} (body : BodyFits a c)
include body

theorem waiting_lawful {prior : PriorMode} (fits : PriorFits c.referenced prior) (left : Nat) :
    ChannelLaw a { c with mode := .recovering prior left, lagging := false, v := 0, driveEnabled := false } :=
  have still := body.still
  BodyFits.lawful (c := { c with mode := .recovering prior left, lagging := false, v := 0, driveEnabled := false }) still
    ⟨rfl, rfl, rfl, fits⟩

theorem tripFault_lawful : ChannelLaw a (tripFault c) :=
  have lost := body.still.unreferenced
  BodyFits.lawful (c := tripFault c) lost ⟨rfl, rfl, rfl, rfl⟩

end Trips

end Sys2Proof.Proofs
end

section
/-! PROOFS. The law of a channel through a profile update, mode by mode (R90 to R105, R118 to R127). -/

namespace Sys2Proof.Proofs

open Machine Safety

/-! ### The channel that the stages of a mode leave -/

/-- A mode other than those at rest asks nothing of P, v and D. -/
theorem modeFits_driven {c : AxisChannel} {m : Mode} (fits : ModeFits c m) (p : Int) {v : Int} (rest : AtRest m → v = 0) :
    ModeFits (driven c p v) m := by
  cases m with
  | parked | held =>
    obtain ⟨drive, lag, _⟩ := fits
    exact ⟨drive, lag, rest trivial⟩
  | recovering prior left =>
    obtain ⟨drive, lag, _, prior⟩ := fits
    exact ⟨drive, lag, rest trivial, prior⟩
  | fault cause =>
    obtain ⟨drive, lag, _, lost⟩ := fits
    exact ⟨drive, lag, rest trivial, lost⟩
  | track | move | homing | stopping => exact fits

section Channel

variable {a : Axis} {c : AxisChannel} (law : ChannelLaw a c)
include law

/-- A step within vmax, the clamp to the travel, and the drive (R100 to R104). -/
theorem driven_lawful {x : Int × Int} (speed : InSpeed c.params x.2) (rest : AtRest c.mode → x.2 = 0) :
    ChannelLaw a (driven c (limitTravel a c x).1 (limitTravel a c x).2.1) := by
  refine BodyFits.lawful ((bodyFits_of_lawful law).moved speed) (modeFits_driven (modeFits_of_lawful law rfl) _ fun stands => ?_)
  obtain ⟨p, v⟩ := x
  obtain rfl : v = 0 := rest stands
  exact limitTravel_still a c p

/-- A destination reached and a stop that has come to rest lead to PARKED or HELD (R90, R105). -/
theorem restMode_lawful : ChannelLaw a (restMode c) := by
  have body := bodyFits_of_lawful law
  unfold restMode
  split
  next x mode =>
    obtain ⟨drive, lag, _⟩ := modeFits_of_lawful law mode
    split
    next there => exact BodyFits.lawful (c := { c with mode := .parked }) body ⟨drive, lag, there.2⟩
    next => exact law
  next mode =>
    obtain ⟨drive, lag⟩ := modeFits_of_lawful law mode
    split
    next rest => exact BodyFits.lawful (c := { c with mode := .parked }) body ⟨drive, lag, rest⟩
    next => exact law
  next mode =>
    obtain ⟨drive, lag⟩ := modeFits_of_lawful law mode
    split
    next rest => exact BodyFits.lawful (c := { c with mode := .held }) body ⟨drive, lag, rest⟩
    next => exact law
  next => exact law

/-- LAGGING is a matter of TRACK alone (R103). -/
theorem lagging_lawful (mode : c.mode = .track) (lags : Bool) : ChannelLaw a { c with lagging := lags } := by
  have body := bodyFits_of_lawful law
  have fits := modeFits_of_lawful law mode
  exact BodyFits.lawful (c := { c with lagging := lags }) body (mode.symm ▸ fits)

/-- The step of a homing phase, before its end: without a reference there is no travel to keep (R120). -/
theorem homingStep_lawful (s : State) {h : HomingRecord} (mode : c.mode = .homing h) (f : HomingPhase) :
    ChannelLaw a (driven c (homingStep s c f).1 (homingStep s c f).2) := by
  have body := bodyFits_of_lawful law
  obtain ⟨_, _, lost, _⟩ := modeFits_of_lawful law mode
  have range := speedLimit_range s body
  have bounds : -speedLimit s c ≤ speedLimit s c := by omega
  have goal : InSpeed c.params (clamp (phaseVelocity c.params f) (-speedLimit s c) (speedLimit s c)) := by
    have := clamp_range (x := phaseVelocity c.params f) bounds
    unfold InSpeed
    omega
  have ⟨⟨_, _, ⟨amax, _⟩, _⟩, speed, _⟩ := body
  refine BodyFits.lawful (body.driven (inSpeed_freeStep amax speed goal) fun referenced => ?_)
    (modeFits_driven (modeFits_of_lawful law rfl) _ fun stands => ?_)
  · exact absurd (lost.symm.trans referenced) (by decide)
  · rw [mode] at stands
    exact stands.elim

/-- A homing that fails leaves its axis in FAULT at rest (R127). -/
theorem homingFault_lawful (s : State) {h : HomingRecord} (mode : c.mode = .homing h) (cause : FaultCause) :
    ChannelLaw a (homingFault s a c cause).2 := by
  have lost := (bodyFits_of_lawful law).still.unreferenced
  obtain ⟨_, lag, _⟩ := modeFits_of_lawful law mode
  exact BodyFits.lawful (c := (homingFault s a c cause).2) lost ⟨rfl, lag, rfl, rfl⟩

/-- A homing that has come to rest: REFERENCED only within the travel (R126). -/
theorem settled_lawful (s : State) {h : HomingRecord} (mode : c.mode = .homing h) (rest : c.v = 0) :
    ChannelLaw a (settled s a c).2 := by
  by_cases inside : InTravel a c.params c.p
  · rw [settled_inside s inside]
    obtain ⟨drive, lag, _⟩ := modeFits_of_lawful law mode
    obtain ⟨legal, speed, _, others⟩ := bodyFits_of_lawful law
    exact BodyFits.lawful (c := { c with mode := .parked, referenced := true }) ⟨legal, speed, fun _ => inside, others⟩
      ⟨drive, lag, rest⟩
  · rw [settled_outside s inside]
    exact homingFault_lawful law s mode .homeRange

/-- The end of an update in HOMING, phase by phase: the distances only grow (R118, R121 to R127). -/
theorem homingEnd_lawful (s : State) {h : HomingRecord} (mode : c.mode = .homing h) {moved : Int} (forward : 0 ≤ moved)
    (vmax : Int) : ChannelLaw a (homingEnd s a c h moved vmax).2 := by
  have body := bodyFits_of_lawful law
  obtain ⟨drive, lag, lost, sought, crept⟩ := modeFits_of_lawful law mode
  have homes (x : HomingRecord) (distances : 0 ≤ x.seekDistance ∧ 0 ≤ x.creepDistance) :
      ChannelLaw a { c with mode := .homing x } :=
    BodyFits.lawful (c := { c with mode := .homing x }) body ⟨drive, lag, lost, distances⟩
  cases phase : h.phase with
  | seek =>
    rw [homingEnd_seek s a c moved vmax phase]
    split
    · exact homingFault_lawful law s mode .homeTimeout
    · exact homes _ ⟨Int.add_nonneg sought forward, crept⟩
  | backoff =>
    rw [homingEnd_backoff s a c moved vmax phase]
    simp only
    split
    · exact homes _ ⟨sought, le_refl 0⟩
    · exact homes h ⟨sought, crept⟩
  | creep =>
    rw [homingEnd_creep s a c moved vmax phase]
    exact homes _ ⟨sought, Int.add_nonneg crept forward⟩
  | settle =>
    rw [homingEnd_settle s a c moved vmax phase]
    split
    next rests => exact settled_lawful law s mode rests.1
    next => exact homes h ⟨sought, crept⟩

end Channel

/-! ### The whole update -/

section Update

variable {s : State} {a : Axis} (law : ChannelLaw a (s.axis a))
include law

theorem trackStages_lawful (mode : (s.axis a).mode = .track) : ChannelLaw a (trackStages s a).2 := by
  have body := bodyFits_of_lawful law
  have ⟨⟨_, _, ⟨amax, _⟩, _⟩, speed, _⟩ := body
  rw [trackStages_eq]
  refine lagging_lawful (driven_lawful law (inSpeed_profileStep amax speed (speedLimit_range s body)) fun stands => ?_) mode _
  rw [mode] at stands
  exact stands.elim

theorem ownStages_lawful (x : Int) (rest : AtRest (s.axis a).mode → x = (s.axis a).p) : ChannelLaw a (ownStages s a x).2 := by
  have body := bodyFits_of_lawful law
  have ⟨⟨_, _, ⟨amax, _⟩, _⟩, speed, _⟩ := body
  rw [ownStages_eq]
  refine driven_lawful law (inSpeed_profileStep amax speed (speedLimit_range s body)) fun stands => ?_
  rw [rest stands]
  simp [profileStep]

theorem stoppingStages_lawful {next : NextMode} (mode : (s.axis a).mode = .stopping next) :
    ChannelLaw a (stoppingStages s a).2 := by
  obtain ⟨⟨_, ⟨vmax, _⟩, ⟨amax, _⟩, _⟩, speed, _⟩ := bodyFits_of_lawful law
  have rest : InSpeed (s.axis a).params 0 := by
    unfold InSpeed
    omega
  rw [stoppingStages_eq]
  refine driven_lawful law (inSpeed_freeStep amax speed rest) fun stands => ?_
  rw [mode] at stands
  exact stands.elim

theorem homingStages_lawful {h : HomingRecord} (mode : (s.axis a).mode = .homing h) :
    ChannelLaw a (homingStages s a h).2 := by
  rw [homingStages_eq]
  exact homingEnd_lawful (homingStep_lawful law s mode h.phase) s mode (abs_nonneg _) _

end Update

/-! ### The axes that the stages leave -/

theorem trackStages_axis (s : State) (a b : Axis) : (trackStages s a).1.axis b = s.axis b := by
  rw [trackStages_eq]
  simp only
  split <;> simp

theorem ownStages_axis (s : State) (a : Axis) (x : Int) (b : Axis) : (ownStages s a x).1.axis b = s.axis b := by
  rw [ownStages_eq]
  exact sendLimit_axis s a b _

theorem stoppingStages_axis (s : State) (a b : Axis) : (stoppingStages s a).1.axis b = s.axis b := by
  rw [stoppingStages_eq]
  exact sendLimit_axis s a b _

theorem homingStages_axis (s : State) (a : Axis) (h : HomingRecord) (b : Axis) :
    (homingStages s a h).1.axis b = s.axis b := by
  have ended (c : AxisChannel) : (settled s a c).1.axis b = s.axis b := by
    by_cases inside : InTravel a c.params c.p
    · rw [settled_inside s inside]
      rfl
    · rw [settled_outside s inside]
      rfl
  rw [homingStages_eq]
  cases phase : h.phase with
  | seek =>
    rw [homingEnd_seek (h := h) s a _ _ _ phase]
    split <;> rfl
  | backoff => rw [homingEnd_backoff (h := h) s a _ _ _ phase]
  | creep => rw [homingEnd_creep (h := h) s a _ _ _ phase]
  | settle =>
    rw [homingEnd_settle (h := h) s a _ _ _ phase]
    split
    · exact ended _
    · rfl

end Sys2Proof.Proofs
end

section
/-! PROOFS. The laws of the seventeen axis channels are kept by every step (R90 to R141, R149, R157): by hold entry and
whatever hands over a cause, by the profile update, by requests, trips and switches, and by every command. -/

namespace Sys2Proof.Proofs

open Machine Safety

/-! ### Writes to the state (blocks other than the axes leave the law as it is) -/

theorem axisLaw_of_axis {s t : State} (h : AxisLaw s) (same : ∀ b, t.axis b = s.axis b) : AxisLaw t := fun b =>
  (same b).symm ▸ h b

theorem axisLaw_of_axes {s t : State} (h : AxisLaw s) (same : t.axes = s.axes) : AxisLaw t :=
  axisLaw_of_axis h fun b => congrArg (Vector.get · b) same

theorem axisLaw_setAxis {s : State} (h : AxisLaw s) {a : Axis} {c : AxisChannel} (law : ChannelLaw a c) :
    AxisLaw (s.setAxis a c) := by
  intro b
  rw [State.setAxis_axis]
  split
  next same => exact same ▸ law
  next => exact h b

theorem axisLaw_changeSet {s : State} (h : AxisLaw s) (set : List Axis) {f : AxisChannel → AxisChannel}
    (kept : ∀ a ∈ set, ChannelLaw a (f (s.axis a))) : AxisLaw (s.changeSet set f) := by
  intro a
  unfold State.changeSet
  rw [State.setAxes_axis, Table.get_build]
  split
  next member => exact kept a member
  next => exact h a

theorem axisLaw_ignoresLinks : IgnoresLinks AxisLaw := fun _ _ h => h

theorem axisLaw_send {s : State} (h : AxisLaw s) (e : Event) : AxisLaw (s.send e) := h

theorem axisLaw_setLink {s : State} (h : AxisLaw s) (l : Link) (x : LinkState) : AxisLaw (s.setLink l x) := h

theorem axisLaw_ignoresClock : Ignores AxisLaw State.setClock := fun _ _ h => h

theorem axisLaw_ignoresBall : Ignores AxisLaw State.setBall := fun _ _ h => h

theorem axisLaw_ignoresPatches : Ignores AxisLaw State.setPatches := fun _ _ h => h

theorem axisLaw_ignoresStore : Ignores AxisLaw State.setStore := fun _ _ h => h

theorem axisLaw_ignoresThermal : Ignores AxisLaw State.setThermal := fun _ _ h => h

theorem axisLaw_ignoresWatches : Ignores AxisLaw State.setWatches := fun _ _ h => h

/-! ### Hold causes, the watch unit and the grant (R148 to R152, R165 to R172, R183 to R191) -/

theorem enterHold_keeps_axisLaw {s : State} (h : AxisLaw s) (cause : HoldCause) : AxisLaw (enterHold s cause) := by
  intro a
  rw [enterHold_axis]
  exact holdTreat_lawful (h a)

theorem handCause_keeps_axisLaw {s : State} (h : AxisLaw s) (cause : HoldCause) : AxisLaw (handCause s cause) := by
  rcases handCause_cases s cause with ⟨_, _, e⟩ | ⟨_, _, e⟩ | ⟨_, _, _, e⟩ <;> rw [e]
  · exact enterHold_keeps_axisLaw h cause
  · exact h
  · exact h

theorem observe_keeps_axisLaw {s : State} (h : AxisLaw s) (subject : WatchSubject) (ch : Change) :
    AxisLaw (observe s subject ch) := by
  obtain ⟨t, ht, outcome⟩ := observe_cases s subject ch
  have fired : AxisLaw t := axisLaw_of_axes h (by simp [ht])
  rcases outcome with ⟨_, e⟩ | ⟨_, _, _, e⟩ <;> rw [e]
  · exact fired
  · exact handCause_keeps_axisLaw fired _

theorem releaseGrant_keeps_axisLaw {s : State} (h : AxisLaw s) (reason : GrantReason) : AxisLaw (releaseGrant s reason) :=
  axisLaw_of_axes h (releaseGrant_axes s reason)

/-! ### The sky clock, star ball geometry and the thermal monitor (R3 to R11, R25 to R29, R142 to R144) -/

theorem execClockStep_keeps_axisLaw : Keeps AxisLaw execClockStep := by
  have told {s : State} (h : AxisLaw s) (side : Option Side) : AxisLaw (sendSkyLimit s side) := by
    cases side with
    | none => exact h
    | some side => exact h
  exact keeps_next fun s h => observe_keeps_axisLaw (told (axisLaw_ignoresClock s _ h) _) _ _

theorem execSetRate_keeps_axisLaw (l : Link) (p : List Byte) : Keeps AxisLaw (execSetRate l p) :=
  keeps_take axisLaw_ignoresLinks fun s h => by
    split
    · exact h
    · exact needGrant_keeps h (needNormal_keeps h h)

theorem jumpTo_keeps_axisLaw {s : State} (h : AxisLaw s) (t : Int) : AxisLaw (jumpTo s t).state :=
  observe_keeps_axisLaw (axisLaw_ignoresClock s _ h) _ _

theorem execSetTime_keeps_axisLaw (l : Link) (p : List Byte) : Keeps AxisLaw (execSetTime l p) :=
  keeps_take axisLaw_ignoresLinks fun s h => by
    split
    · exact h
    · exact needGrant_keeps h (needNormal_keeps h (jumpTo_keeps_axisLaw h _))

theorem execNudge_keeps_axisLaw (l : Link) (p : List Byte) : Keeps AxisLaw (execNudge l p) :=
  keeps_take axisLaw_ignoresLinks fun s h => by
    split
    · exact h
    · exact needGrant_keeps h (needNormal_keeps h (jumpTo_keeps_axisLaw h _))

theorem execSetSite_keeps_axisLaw (l : Link) (p : List Byte) : Keeps AxisLaw (execSetSite l p) :=
  keeps_take axisLaw_ignoresLinks fun s h => by
    split
    · exact h
    · exact needGrant_keeps h h

theorem execCoupleOff_keeps_axisLaw (l : Link) (p : List Byte) : Keeps AxisLaw (execCoupleOff l p) := by
  intro s t h ht
  unfold execCoupleOff at ht
  split at ht
  · cases ht
    exact h
  · exact keeps_take axisLaw_ignoresLinks (fun _ hu => handleCouple_keeps axisLaw_ignoresBall hu l p) s t h ht

theorem execCoupleOn_keeps_axisLaw (l : Link) (p : List Byte) : Keeps AxisLaw (execCoupleOn l p) := by
  intro s t h ht
  unfold execCoupleOn at ht
  split at ht
  · cases ht
    exact h
  · exact keeps_take axisLaw_ignoresLinks (fun _ hu => handleCouple_keeps axisLaw_ignoresBall hu l p) s t h ht

theorem execSetThermalLimit_keeps_axisLaw (l : Link) (p : List Byte) : Keeps AxisLaw (execSetThermalLimit l p) :=
  keeps_take axisLaw_ignoresLinks fun s h => by
    split
    · exact h
    · exact needGrant_keeps h h

theorem execThermalSample_keeps_axisLaw (celsius : Int) : Keeps AxisLaw (execThermalSample celsius) := by
  have warned {u : State} (hu : AxisLaw u) (old new : Bool) : AxisLaw (sendWarning u old new celsius) := by
    unfold sendWarning
    split <;> exact hu
  intro s t h ht
  unfold execThermalSample at ht
  simp only at ht
  split at ht <;> cases ht
  · exact handCause_keeps_axisLaw (axisLaw_send (warned (axisLaw_ignoresThermal s _ h) _ _) _) _
  · exact warned (axisLaw_ignoresThermal s _ h) _ _

/-! ### The profile update and the index edge (R94 to R105, R118 to R127) -/

theorem updated_keeps_axisLaw {s : State} (h : AxisLaw s) (a : Axis) : AxisLaw (updated s a) := by
  have law := h a
  cases mode : (s.axis a).mode with
  | track =>
    rw [updated_track mode]
    exact axisLaw_setAxis (axisLaw_of_axis h (trackStages_axis s a)) (trackStages_lawful law mode)
  | move x =>
    rw [updated_move mode]
    have moves : ChannelLaw a (ownStages s a x).2 := ownStages_lawful law x fun stands => by
      rw [mode] at stands
      exact stands.elim
    exact axisLaw_setAxis (axisLaw_of_axis h (ownStages_axis s a x)) (restMode_lawful moves)
  | parked =>
    rw [updated_standing (.inl mode)]
    exact axisLaw_setAxis (axisLaw_of_axis h (ownStages_axis s a _)) (ownStages_lawful law _ fun _ => rfl)
  | held =>
    rw [updated_standing (.inr mode)]
    exact axisLaw_setAxis (axisLaw_of_axis h (ownStages_axis s a _)) (ownStages_lawful law _ fun _ => rfl)
  | stopping next =>
    rw [updated_stopping mode]
    exact axisLaw_setAxis (axisLaw_of_axis h (stoppingStages_axis s a)) (restMode_lawful (stoppingStages_lawful law mode))
  | homing x =>
    rw [updated_homing mode]
    exact axisLaw_setAxis (axisLaw_of_axis h (homingStages_axis s a x)) (homingStages_lawful law mode)
  | recovering prior left =>
    rw [updated_driveOff (.inl ⟨prior, left, mode⟩)]
    exact axisLaw_setAxis h law
  | fault cause =>
    rw [updated_driveOff (.inr ⟨cause, mode⟩)]
    exact axisLaw_setAxis h law

theorem exec_profileUpdate_keeps_axisLaw (a : Axis) : Keeps AxisLaw (exec (.profileUpdate a)) := by
  intro s t h ht
  rw [exec_profileUpdate] at ht
  cases ht
  exact observe_keeps_axisLaw (updated_keeps_axisLaw h a) _ _

theorem execIndexEdge_keeps_axisLaw (a : Axis) : Keeps AxisLaw (execIndexEdge a) :=
  keeps_next fun _ h => axisLaw_setAxis h (indexEdge_lawful (h a))

/-! ### Requests to axes (R107 to R119, R141) -/

/-- What passes the check of TRACK and MOVE (R108, R110). -/
theorem of_trackRefusal_none {c : AxisChannel} (passed : trackRefusal c = none) : c.referenced = true ∧ FollowMode c.mode := by
  by_cases fault : ∃ cause, c.mode = .fault cause
  · rw [trackRefusal_faulted fault] at passed
    cases passed
  have sound (cause : FaultCause) : c.mode ≠ .fault cause := fun mode => fault ⟨cause, mode⟩
  cases referenced : c.referenced with
  | false =>
    rw [trackRefusal_unreferenced sound referenced] at passed
    cases passed
  | true =>
    refine ⟨rfl, ?_⟩
    by_contra other
    rw [trackRefusal_busy sound referenced other] at passed
    cases passed

/-- Where no axis of a set is the first refused, the check passes each of them. -/
theorem of_firstRefusal_none {s : State} {check : AxisChannel → Option Status} {set : List Axis}
    (passed : firstRefusal s check set = none) : ∀ a ∈ set, check (s.axis a) = none := by
  induction set with
  | nil => nofun
  | cons b rest ih =>
    unfold firstRefusal at passed
    cases first : check (s.axis b) with
    | some st =>
      rw [first] at passed
      cases passed
    | none =>
      rw [first] at passed
      intro a member
      rcases List.mem_cons.mp member with rfl | later
      · exact first
      · exact ih passed a later

theorem execTrack_keeps_axisLaw (l : Link) (p : List Byte) : Keeps AxisLaw (execTrack l p) :=
  keeps_take axisLaw_ignoresLinks fun s h => by
    split
    · exact h
    next set _ =>
      refine needGrant_keeps h (needNormal_keeps h ?_)
      split
      · exact h
      next passed =>
        refine axisLaw_changeSet h set fun a member => ?_
        obtain ⟨referenced, may⟩ := of_trackRefusal_none (of_firstRefusal_none passed a member)
        exact enterTrack_lawful (h a) referenced may

theorem execMove_keeps_axisLaw (l : Link) (p : List Byte) : Keeps AxisLaw (execMove l p) :=
  keeps_take axisLaw_ignoresLinks fun s h => by
    split
    · exact h
    next a value dir _ =>
      refine needGrant_keeps h (needNormal_keeps h ?_)
      split
      · exact h
      next passed =>
        obtain ⟨referenced, may⟩ := of_trackRefusal_none passed
        exact axisLaw_setAxis h (enterMove_lawful (h a) referenced may _)

theorem execPark_keeps_axisLaw (l : Link) (p : List Byte) : Keeps AxisLaw (execPark l p) :=
  keeps_take axisLaw_ignoresLinks fun s h => by
    split
    · exact h
    next set _ =>
      exact needGrant_keeps h (needNormal_keeps h (axisLaw_changeSet h set fun a _ => parkAxis_lawful (h a)))

theorem execHome_keeps_axisLaw (l : Link) (p : List Byte) : Keeps AxisLaw (execHome l p) :=
  keeps_take axisLaw_ignoresLinks fun s h => by
    split
    · exact h
    next set _ =>
      refine needGrant_keeps h (needNormal_keeps h ?_)
      split
      · exact h
      next passed =>
        refine axisLaw_changeSet h set fun a member => startHoming_lawful (h a) ?_
        by_contra moves
        have refused := homeRefusal_notParked moves
        rw [of_firstRefusal_none passed a member] at refused
        cases refused

theorem execSetAxisParam_keeps_axisLaw (l : Link) (p : List Byte) : Keeps AxisLaw (execSetAxisParam l p) :=
  keeps_take axisLaw_ignoresLinks fun s h => by
    split
    · exact h
    next a v _ =>
      refine needGrant_keeps h (needNormal_keeps h ?_)
      simp only
      split
      · exact h
      next may =>
        split
        · exact h
        next fits => exact axisLaw_setAxis h (changeParam_lawful (h a) (by simpa using may) v (by simpa using fits))

theorem execClearFault_keeps_axisLaw (l : Link) (p : List Byte) (lines : Lines) : Keeps AxisLaw (execClearFault l p lines) :=
  keeps_take axisLaw_ignoresLinks fun s h => by
    split
    · exact h
    next a _ =>
      refine needGrant_keeps h ?_
      split
      · exact h
      next fault =>
        split
        · exact h
        · exact axisLaw_setAxis h (clearedFault_lawful (h a) (by simpa using fault))

/-! ### Trips and end switches (R131 to R139) -/

theorem reportFault_keeps_axisLaw {s : State} (h : AxisLaw s) (a : Axis) (kind : HoldFaultKind) :
    AxisLaw (reportFault s a kind) :=
  handCause_keeps_axisLaw (axisLaw_send h _) _

theorem switchActive_keeps_axisLaw {s : State} (h : AxisLaw s) (a : Axis) (side : Side) : AxisLaw (switchActive s a side) := by
  unfold switchActive
  split
  next kind => exact reportFault_keeps_axisLaw (axisLaw_setAxis h (switchFault_lawful (h a) kind side)) a _
  next => exact h

theorem setTripLine_keeps_axisLaw {s : State} (h : AxisLaw s) (a : Axis) (line : TripLine) :
    AxisLaw (s.setTripLine a line) :=
  axisLaw_setAxis h (h a)

/-- A trip as MANUAL, on a channel whose other fields fit (R138). -/
theorem tripFaults_keeps_axisLaw {s : State} (h : AxisLaw s) {a : Axis} {c : AxisChannel} (body : BodyFits a c) :
    AxisLaw (tripFaults s a c) :=
  handCause_keeps_axisLaw (axisLaw_send (axisLaw_setAxis h (tripFault_lawful body)) _) _

/-- A counted trip, on a channel whose other fields fit and that remembers a mode it may return to (R134, R135). -/
theorem retryTrip_keeps_axisLaw {s : State} (h : AxisLaw s) {a : Axis} {c : AxisChannel} (body : BodyFits a c)
    {prior : PriorMode} (fits : PriorFits c.referenced prior) : AxisLaw (retryTrip (s.setAxis a c) a prior) := by
  have ⟨_, _, _, _, ⟨few, _⟩, _⟩ := body
  have once := body.counted
  rw [retryTrip_setAxis s a c prior few]
  split
  · exact axisLaw_setAxis h (waiting_lawful once fits 10)
  · exact tripFaults_keeps_axisLaw h once

theorem tripped_keeps_axisLaw {s : State} (h : AxisLaw s) (a : Axis) : AxisLaw (tripped s a) := by
  have body := bodyFits_of_lawful (h a)
  have disabled : BodyFits a (disableDrive (s.axis a)) := body.still
  have remembered := priorOf_fits (h a)
  unfold tripped
  split
  next => exact h
  next before left mode =>
    obtain ⟨_, _, _, fits⟩ := modeFits_of_lawful (h a) mode
    have kept := retryTrip_keeps_axisLaw h body fits
    rwa [State.setAxis_self] at kept
  next =>
    split
    · exact retryTrip_keeps_axisLaw h disabled remembered
    · rw [manualTrip_setAxis]
      exact tripFaults_keeps_axisLaw h disabled

theorem tripSeen_keeps_axisLaw {s : State} (h : AxisLaw s) (x : TripSeen) : AxisLaw (tripSeen s x) := by
  rcases tripSeen_cases s x with ⟨_, _, _, e⟩ | ⟨_, _, _, e⟩ | ⟨_, e⟩ <;> rw [e]
  · exact tripped_keeps_axisLaw (setTripLine_keeps_axisLaw h _ _) _
  · exact setTripLine_keeps_axisLaw h _ _
  · exact h

theorem execRetryExpiry_keeps_axisLaw (a : Axis) (line : Bool) : Keeps AxisLaw (execRetryExpiry a line) := by
  intro s t h ht
  unfold execRetryExpiry at ht
  split at ht
  next prior mode =>
    have read : ChannelLaw a { s.axis a with tripLine := readTripLine (s.axis a) line } := h a
    have body := bodyFits_of_lawful read
    obtain ⟨_, _, _, fits⟩ := modeFits_of_lawful (h a) mode
    simp only [State.setTripLine, State.setAxis_axis_self, State.setAxis_setAxis] at ht
    split at ht <;> cases ht
    · exact retryTrip_keeps_axisLaw h body fits
    · exact axisLaw_setAxis h (returned_lawful read mode)
  next =>
    cases ht
    exact h

theorem execTripWindowExpiry_keeps_axisLaw (a : Axis) : Keeps AxisLaw (execTripWindowExpiry a) := by
  intro s t h ht
  unfold execTripWindowExpiry at ht
  split at ht <;> cases ht
  · exact axisLaw_setAxis h (uncounted_lawful (h a))
  · exact h

/-! ### Device reset (R85, R91, R131) -/

theorem powerOn_axisLaw (s : State) : AxisLaw (powerOn s) := by
  intro a
  have start : (powerOn s).axis a = resetAxis ((startParams (resetStore s.store).record).axes.get a) := Table.get_build _ a
  rw [start]
  exact resetAxis_lawful (startParams_legal _ a)

theorem execDeviceReset_keeps_axisLaw (trips : List Axis) (switches : List (Axis × Side)) :
    Keeps AxisLaw (execDeviceReset trips switches) := by
  have tripsTaken {s : State} (h : AxisLaw s) : AxisLaw (takeTripLines trips s) := by
    unfold takeTripLines
    induction trips generalizing s with
    | nil => exact h
    | cons a rest ih => exact ih (tripSeen_keeps_axisLaw h _)
  have switchesTaken {s : State} (h : AxisLaw s) : AxisLaw (takeSwitches switches s) := by
    unfold takeSwitches
    induction switches generalizing s with
    | nil => exact h
    | cons x rest ih => exact ih (switchActive_keeps_axisLaw h _ _)
  exact keeps_next fun s _ => switchesTaken (tripsTaken (powerOn_axisLaw s))

/-! ### Hold and resume (R153 to R160) -/

theorem execHold_keeps_axisLaw (l : Link) (p : List Byte) : Keeps AxisLaw (execHold l p) :=
  keeps_take axisLaw_ignoresLinks fun s h => by
    split
    · exact h
    · show AxisLaw (if s.inHold then s else enterHold s (.request l))
      split
      · exact h
      · exact enterHold_keeps_axisLaw h _

theorem resumeShow_keeps_axisLaw {s : State} (h : AxisLaw s) (snap : Snapshot) : AxisLaw (resumeShow s snap) := by
  have restored (clock : Clock) (x : HoldCtl) (e : Event) :
      AxisLaw ((((s.setClock clock).setAxes
        (Table.build fun a => restoreAxis a (snap.saved.get a) (s.axis a))).setHold x).send e) := by
    intro a
    rw [State.send_axis, State.setHold_axis, State.setAxes_axis, Table.get_build]
    exact restoreAxis_lawful (h a) (snap.saved.get a)
  unfold resumeShow
  simp only
  split
  · exact restored _ _ _
  · exact observe_keeps_axisLaw (restored _ _ _) _ _

theorem execResume_keeps_axisLaw (l : Link) (p : List Byte) : Keeps AxisLaw (execResume l p) :=
  keeps_take axisLaw_ignoresLinks fun s h => by
    split
    · exact h
    split
    · exact h
    split
    · exact h
    · split
      · exact h
      split
      · exact h
      · exact resumeShow_keeps_axisLaw h _

theorem execSnapshotEdit_keeps_axisLaw (l : Link) (p : List Byte) : Keeps AxisLaw (execSnapshotEdit l p) :=
  keeps_take axisLaw_ignoresLinks fun s h => by
    split
    · exact h
    split
    · exact h
    split
    · exact h
    · exact h

/-! ### Guards and the grant (R183 to R191, R197) -/

theorem guardExpire_keeps_axisLaw {s : State} (h : AxisLaw s) (l : Link) (action : GuardAction) :
    AxisLaw (guardExpire s l action) := by
  have released (c : Bool) :
      AxisLaw (if c then releaseGrant (s.send (.guardExpired l action)) .guard else s.send (.guardExpired l action)) := by
    split
    · exact releaseGrant_keeps_axisLaw (axisLaw_send h _) _
    · exact h
  have target (c : Bool) (u : State) (hu : AxisLaw u) : AxisLaw (if c then u.setClock u.clock.releaseTarget else u) := by
    split <;> exact hu
  have caused (u : State) (hu : AxisLaw u) : AxisLaw (if action = .hold then handCause u (.guard l) else u) := by
    split
    · exact handCause_keeps_axisLaw hu _
    · exact hu
  exact caused _ (target _ _ (released _))

theorem execGuardExpiry_keeps_axisLaw (l : Link) : Keeps AxisLaw (execGuardExpiry l) := by
  intro s t h ht
  unfold execGuardExpiry at ht
  split at ht <;> cases ht
  · exact guardExpire_keeps_axisLaw (axisLaw_setLink h _ _) _ _
  · exact h

theorem execGrantRequest_keeps_axisLaw (l : Link) (p : List Byte) : Keeps AxisLaw (execGrantRequest l p) :=
  keeps_take axisLaw_ignoresLinks fun s h => by
    split
    · exact h
    split
    · exact h
    · split_ifs <;> exact h

theorem execGrantRelease_keeps_axisLaw (l : Link) (p : List Byte) : Keeps AxisLaw (execGrantRelease l p) :=
  keeps_take axisLaw_ignoresLinks fun s h => by
    split
    · exact h
    split
    · exact releaseGrant_keeps_axisLaw h _
    · exact h

theorem execGrantSeize_keeps_axisLaw (l : Link) (p : List Byte) : Keeps AxisLaw (execGrantSeize l p) :=
  keeps_take axisLaw_ignoresLinks fun s h => by
    split
    · exact h
    split_ifs <;> exact h

theorem execLinkReset_keeps_axisLaw (l : Link) (p : List Byte) : Keeps AxisLaw (execLinkReset l p) :=
  keeps_take axisLaw_ignoresLinks fun s h => by
    split
    · exact h
    · have left : AxisLaw (leaveQueue (s.setLink l (s.link l).resetRequest) l) := h
      simp only [answer]
      split
      · exact releaseGrant_keeps_axisLaw left _
      · exact left

/-! ### Every command -/

theorem passMillisecond_keeps_axisLaw (s : State) (h : AxisLaw s) : AxisLaw (passMillisecond s) := by
  intro a
  rw [passMillisecond_axis]
  exact elapse_lawful (h a)

theorem exec_keeps_axisLaw (i : Instr) : Keeps AxisLaw (exec i) := by
  have links := axisLaw_ignoresLinks
  have patches := axisLaw_ignoresPatches
  have store := axisLaw_ignoresStore
  have watches := axisLaw_ignoresWatches
  cases i with
  | deviceReset trips switches => exact execDeviceReset_keeps_axisLaw trips switches
  | clockStep => exact execClockStep_keeps_axisLaw
  | profileUpdate a => exact exec_profileUpdate_keeps_axisLaw a
  | indexEdge a => exact execIndexEdge_keeps_axisLaw a
  | qualifiedTrip x => exact keeps_next fun _ h => tripSeen_keeps_axisLaw h x
  | endSwitch a side => exact keeps_next fun _ h => switchActive_keeps_axisLaw h a side
  | retryExpiry a line => exact execRetryExpiry_keeps_axisLaw a line
  | tripWindowExpiry a => exact execTripWindowExpiry_keeps_axisLaw a
  | thermalSample celsius => exact execThermalSample_keeps_axisLaw celsius
  | writeCompletion result => exact execWriteCompletion_keeps links store result
  | eraseCompletion result => exact execEraseCompletion_keeps links store result
  | checkSectorCovered => exact execCheckSectorCovered_keeps links store
  | saveErasePhaseEnd result => exact execSaveErasePhaseEnd_keeps links store result
  | saveWritePhaseEnd result => exact execSaveWritePhaseEnd_keeps links store result
  | frameArrival l k p => exact execFrameArrival_keeps links l k p
  | transmitStart l => exact execTransmitStart_keeps links l
  | reportEvent l => exact execReportEvent_keeps links l
  | guardExpiry l => exact execGuardExpiry_keeps_axisLaw l
  | nonRequestKind l k p => exact execNonRequestKind_keeps links l k p
  | setRate l p => exact execSetRate_keeps_axisLaw l p
  | setTime l p => exact execSetTime_keeps_axisLaw l p
  | nudge l p => exact execNudge_keeps_axisLaw l p
  | setSite l p => exact execSetSite_keeps_axisLaw l p
  | coupleOff l p => exact execCoupleOff_keeps_axisLaw l p
  | coupleOn l p => exact execCoupleOn_keeps_axisLaw l p
  | readTrack l p => exact execReadTrack_keeps links l p
  | patchSet l p => exact execPatchSet_keeps links patches l p
  | patchEnable l p => exact execPatchEnable_keeps links patches l p
  | patchDisable l p => exact execPatchDisable_keeps links patches l p
  | patchRead l p => exact execPatchRead_keeps links l p
  | segmentWrite l p => exact execSegmentWrite_keeps links store l p
  | sectorErase l p => exact execSectorErase_keeps links store l p
  | eraseSuspend l p => exact execEraseSuspend_keeps links store l p
  | eraseResume l p => exact execEraseResume_keeps links store l p
  | sectorCheck l p => exact execSectorCheck_keeps links store l p
  | saveParameters l p => exact execSaveParameters_keeps links store l p
  | readSegment l p => exact execReadSegment_keeps links l p
  | protect l p => exact execProtect_keeps links store l p
  | track l p => exact execTrack_keeps_axisLaw l p
  | move l p => exact execMove_keeps_axisLaw l p
  | park l p => exact execPark_keeps_axisLaw l p
  | setAxisParam l p => exact execSetAxisParam_keeps_axisLaw l p
  | readAxis l p => exact execReadAxis_keeps links l p
  | home l p => exact execHome_keeps_axisLaw l p
  | clearFault l p lines => exact execClearFault_keeps_axisLaw l p lines
  | setThermalLimit l p => exact execSetThermalLimit_keeps_axisLaw l p
  | hold l p => exact execHold_keeps_axisLaw l p
  | resume l p => exact execResume_keeps_axisLaw l p
  | snapshotRead l p => exact execSnapshotRead_keeps links l p
  | snapshotEdit l p => exact execSnapshotEdit_keeps_axisLaw l p
  | watchSet l p => exact execWatchSet_keeps links watches l p
  | watchEnable l p => exact execWatchEnable_keeps links watches l p
  | watchDisable l p => exact execWatchDisable_keeps links watches l p
  | watchClear l p => exact execWatchClear_keeps links watches l p
  | watchStatus l p => exact execWatchStatus_keeps links l p
  | watchAcknowledge l p => exact execWatchAcknowledge_keeps links watches l p
  | grantRequest l p => exact execGrantRequest_keeps_axisLaw l p
  | grantRelease l p => exact execGrantRelease_keeps_axisLaw l p
  | grantSeize l p => exact execGrantSeize_keeps_axisLaw l p
  | guardArm l p => exact execGuardArm_keeps links l p
  | reportInterval l p => exact execReportInterval_keeps links l p
  | readStatus l p => exact execReadStatus_keeps links l p
  | linkReset l p => exact execLinkReset_keeps_axisLaw l p
  | characterReceived l char fault => exact execCharacterReceived_keeps links l char fault

/-- Settles O57: every command keeps the law of every channel, and so does a passing millisecond. -/
theorem axisLawKept : Obligations.AxisLawKept := by
  unfold Obligations.AxisLawKept
  intro s t h ht
  exact keeps_step (fun _ _ hu => hu) passMillisecond_keeps_axisLaw exec_keeps_axisLaw s t h ht

end Sys2Proof.Proofs
end

section
/-! PROOFS. The index edge on a channel in HOMING, by the phase it meets (R121, R124, R125, R128). -/

namespace Sys2Proof.Proofs

open Machine Safety

section Edge

variable {c : AxisChannel} {h : HomingRecord} (mode : c.mode = .homing h)
include mode

/-- An edge ends SEEK (R121). -/
theorem indexEdge_seek (phase : h.phase = .seek) :
    indexEdge c = { c with mode := .homing { h with phase := .backoff } } := by
  simp only [indexEdge, mode, phase]

/-- An edge past the blanking distance of CREEP redefines the position (R124, R125). -/
theorem indexEdge_creep (phase : h.phase = .creep) (past : 2 ^ 24 ≤ h.creepDistance) :
    indexEdge c =
      { c with
        mode := .homing { h with phase := .settle }
        p := c.params.indexOffset
        d := c.params.indexOffset * c.params.gear / 2 ^ 32 } := by
  have drive : drivePosition c.params.indexOffset c.params.gear = c.params.indexOffset * c.params.gear / 2 ^ 32 := by
    rw [drivePosition, turn_eq]
  simp only [indexEdge, mode, phase, drive]
  exact if_pos past

/-- An edge within the blanking distance of CREEP is ignored (R124). -/
theorem indexEdge_blanked (phase : h.phase = .creep) (within : h.creepDistance < 2 ^ 24) : indexEdge c = c := by
  simp only [indexEdge, mode, phase]
  exact if_neg (Int.not_le.mpr within)

/-- An edge in BACKOFF or SETTLE is ignored (R128). -/
theorem indexEdge_resting (phase : h.phase = .backoff ∨ h.phase = .settle) : indexEdge c = c := by
  rcases phase with phase | phase <;> simp only [indexEdge, mode, phase]

end Edge

/-- An edge outside HOMING is ignored (R128). -/
theorem indexEdge_elsewhere {c : AxisChannel} (mode : ∀ h, c.mode ≠ .homing h) : indexEdge c = c := by
  unfold indexEdge
  split
  next h homing => exact absurd homing (mode h)
  next => rfl

/-- INDEX EDGE writes its one channel. -/
theorem exec_indexEdge {s : State} {a : Axis} {c : AxisChannel} (edge : indexEdge (s.axis a) = c) :
    exec (.indexEdge a) s = .next (s.setAxis a c) := by
  rw [← edge]
  rfl

theorem exec_indexEdge_ignored {s : State} {a : Axis} (ignored : indexEdge (s.axis a) = s.axis a) :
    exec (.indexEdge a) s = .next s := by
  rw [exec_indexEdge ignored, State.setAxis_self]

/-- Settles O26, phase by phase; where no phase takes the edge, the channel written back is the one that stood. -/
theorem indexEdgeByPhase : Obligations.IndexEdgeByPhase := by
  intro s a c
  refine ⟨fun h mode phase => exec_indexEdge (indexEdge_seek mode phase),
    fun h mode phase past => exec_indexEdge (indexEdge_creep mode phase past), fun elsewhere => exec_indexEdge_ignored ?_⟩
  by_cases homing : ∃ h, c.mode = .homing h
  · obtain ⟨h, mode⟩ := homing
    rcases elsewhere h mode with backoff | settle | ⟨creep, within⟩
    · exact indexEdge_resting mode (.inl backoff)
    · exact indexEdge_resting mode (.inr settle)
    · exact indexEdge_blanked mode creep within
  · exact indexEdge_elsewhere fun h mode => homing ⟨h, mode⟩

end Sys2Proof.Proofs
end

section
/-! PROOFS. The requests whose form checks refuse a field: what each reader refuses, and the one answer to all of them (R35,
R200 to R202). -/

namespace Sys2Proof.Proofs

open Machine Safety

/-! ### The answer to a payload that its reader refuses (R180, R200) -/

/-- The reader of the kind refuses the payload, for the kinds with numbers, sets, codes and segments in them (R201). -/
inductive Misread : Byte → List Byte → Prop
  | readTrack {p : List Byte} (form : readTrackNo p = none) : Misread 0x06 p
  | patchSet {p : List Byte} (form : readPatchSet p = none) : Misread 0x07 p
  | patchEnable {p : List Byte} (form : readPatchNo p = none) : Misread 0x08 p
  | patchDisable {p : List Byte} (form : readPatchNo p = none) : Misread 0x09 p
  | patchRead {p : List Byte} (form : readPatchNo p = none) : Misread 0x0A p
  | segmentWrite {p : List Byte} (form : readSegmentWrite p = none) : Misread 0x10 p
  | sectorErase {p : List Byte} (form : readSector p = none) : Misread 0x11 p
  | readSegment {p : List Byte} (form : readSlotNo p = none) : Misread 0x16 p
  | protect {p : List Byte} (form : readProtect p = none) : Misread 0x17 p
  | track {p : List Byte} (form : readAxisSet p = none) : Misread 0x20 p
  | move {p : List Byte} (form : readMove p = none) : Misread 0x21 p
  | park {p : List Byte} (form : readAxisSet p = none) : Misread 0x22 p
  | setAxisParam {p : List Byte} (form : readAxisParam p = none) : Misread 0x23 p
  | readAxis {p : List Byte} (form : readAxisNo p = none) : Misread 0x24 p
  | home {p : List Byte} (form : readAxisSet p = none) : Misread 0x25 p
  | clearFault {p : List Byte} (form : readAxisNo p = none) : Misread 0x26 p
  | snapshotEdit {p : List Byte} (form : readSnapshotEdit p = none) : Misread 0x33 p
  | watchSet {p : List Byte} (form : readWatchSet p = none) : Misread 0x38 p
  | watchEnable {p : List Byte} (form : readWatchNo p = none) : Misread 0x39 p
  | watchDisable {p : List Byte} (form : readWatchNo p = none) : Misread 0x3A p
  | watchClear {p : List Byte} (form : readWatchNo p = none) : Misread 0x3B p
  | guardArm {p : List Byte} (form : readGuardArm p = none) : Misread 0x48 p

/-- A request that its owner answers with a status alone, on the state as it is, changes nothing but frame and reply. -/
theorem take_answered {s : State} {l : Link} {k : Byte} {p : List Byte} {handle : State → Handled} {status : Status}
    (ready : Ready s l k p) (handled : handle (s.dropFrame l) = answer (s.dropFrame l) status) :
    take l ⟨k, p⟩ handle s = .next (replied (s.dropFrame l) l k status .none) :=
  take_replied ready handled

/-- Every owner reads the payload before any other check, and a refused one is answered MALFORMED (R180, R200). -/
theorem exec_misread {s : State} {l : Link} {lines : Lines} {k : Byte} {p : List Byte} (misread : Misread k p)
    (ready : Ready s l k p) :
    exec (requestOf l lines k p) s = .next (replied (s.dropFrame l) l k .malformed .none) := by
  cases misread with
  | readTrack form => exact (take_answered ready (by rw [form]) : execReadTrack l p s = _)
  | patchSet form => exact (take_answered ready (by rw [form]) : execPatchSet l p s = _)
  | patchEnable form => exact (take_answered ready (by rw [form]) : execPatchEnable l p s = _)
  | patchDisable form => exact (take_answered ready (by rw [form]) : execPatchDisable l p s = _)
  | patchRead form => exact (take_answered ready (by rw [form]) : execPatchRead l p s = _)
  | segmentWrite form => exact (take_answered ready (by rw [form]) : execSegmentWrite l p s = _)
  | sectorErase form => exact (take_answered ready (by rw [form]) : execSectorErase l p s = _)
  | readSegment form => exact (take_answered ready (by rw [form]) : execReadSegment l p s = _)
  | protect form => exact (take_answered ready (by rw [form]) : execProtect l p s = _)
  | track form => exact (take_answered ready (by rw [form]) : execTrack l p s = _)
  | move form => exact (take_answered ready (by rw [form]) : execMove l p s = _)
  | park form => exact (take_answered ready (by rw [form]) : execPark l p s = _)
  | setAxisParam form => exact (take_answered ready (by rw [form]) : execSetAxisParam l p s = _)
  | readAxis form => exact (take_answered ready (by rw [form]) : execReadAxis l p s = _)
  | home form => exact (take_answered ready (by rw [form]) : execHome l p s = _)
  | clearFault form => exact (take_answered ready (by rw [form]) : execClearFault l p lines s = _)
  | snapshotEdit form => exact (take_answered ready (by rw [form]) : execSnapshotEdit l p s = _)
  | watchSet form => exact (take_answered ready (by rw [form]) : execWatchSet l p s = _)
  | watchEnable form => exact (take_answered ready (by rw [form]) : execWatchEnable l p s = _)
  | watchDisable form => exact (take_answered ready (by rw [form]) : execWatchDisable l p s = _)
  | watchClear form => exact (take_answered ready (by rw [form]) : execWatchClear l p s = _)
  | guardArm form => exact (take_answered ready (by rw [form]) : execGuardArm l p s = _)

/-! ### Fields out of their range -/

theorem ofLength_none {α : Type} (n : Nat) (p : List Byte) : ofLength n p (none : Option α) = none := ite_self _

/-- A payload that is one number, at or above its bound. -/
theorem ofLength_readNo_none {len bound : Nat} {p : List Byte} (above : bound ≤ beNat p) :
    ofLength len p (readNo bound p) = none := by
  rw [readNo_none above, ofLength_none]

/-- A payload of one byte that is a number at or above its bound. -/
theorem readByte_none {bound : Nat} {b : Byte} (above : bound ≤ b.toNat) : ofLength 1 [b] (readNo bound [b]) = none :=
  ofLength_readNo_none (by rwa [beNat_singleton])

theorem readNo_byte_none {bound : Nat} {b : Byte} (above : bound ≤ b.toNat) : readNo bound [b] = none :=
  readNo_none (by rwa [beNat_singleton])

theorem readSlot_none {n : Nat} (above : 2016 ≤ n) (fits : n < 2 ^ 16) : readNo 2016 (beBytes 2 n) = none :=
  readNo_none (by rwa [beNat_beBytes_nat fits])

theorem readOnOff_above {b : Byte} (above : 2 ≤ b.toNat) : readOnOff [b] = none :=
  readOnOff_none (by rintro rfl; simp at above) (by rintro rfl; simp at above)

theorem readMoveDirection_none {b : Byte} (above : 3 ≤ b.toNat) : readMoveDirection [b] = none := by
  rw [readMoveDirection, beNat_singleton]
  split
  case h_4 => rfl
  all_goals omega

theorem readAction_none {b : Byte} (above : 3 ≤ b.toNat) : readAction [b] = none := by
  rw [readAction, beNat_singleton]
  split
  case h_4 => rfl
  all_goals omega

theorem readGuardInterval_none {n : Nat} (other : n ∉ [50, 100, 200, 500, 1000, 2000, 5000, 10000]) (fits : n < 2 ^ 16) :
    readGuardInterval (beBytes 2 n) = none := by
  rw [readGuardInterval, beNat_beBytes_nat fits]
  split
  case h_9 => rfl
  all_goals simp at other

/-- An axis set that names no axis, or one above 16 (R200). -/
theorem readAxisSet_none {n : Nat} (outside : n = 0 ∨ 2 ^ 17 ≤ n) (fits : n < 2 ^ 24) : readAxisSet (beBytes 3 n) = none := by
  simp only [readAxisSet, beNat_beBytes_nat (k := 3) fits, if_pos outside, ofLength_none]

/-- A segment record whose fields do not make a well-formed segment (R35). The coefficients take any value. -/
theorem readSegmentRecord_none {g : Segment} (span1 : 0 ≤ g.spanS) (span2 : g.spanS < 2 ^ 32) (start1 : -2 ^ 39 ≤ g.startS)
    (start2 : g.startS < 2 ^ 39)
    (outside : g.spanS = 0 ∨ g.startS < -315576000000 ∨ 315576000000 < g.startS + g.spanS) :
    readSegmentRecord (segmentBytes g) = none := by
  have track : readNo 13 (beBytes 1 (g.track.val : Int)) = some g.track := readNo_beBytes g.track (by decide)
  have startS : beSigned (beBytes 5 g.startS) = g.startS := beSigned_beBytes (by norm_num; omega) (by norm_num; omega)
  have spanS : beUnsigned (beBytes 4 g.spanS) = g.spanS := beUnsigned_beBytes span1 (by norm_num; omega)
  have malformed : 1 ≤ g.spanS → -315576000000 ≤ g.startS → 315576000000 < g.startS + g.spanS := by omega
  simpa [readSegmentRecord, segmentBytes, List.append_assoc, field_left, field_skip, field_all, track, startS, spanS,
    segmentWf, segmentBound] using malformed

/-- A segment record whose first byte is no track (R35, R202). -/
theorem readSegmentRecord_track {b : Byte} (above : 13 ≤ b.toNat) (r : List Byte) : readSegmentRecord (b :: r) = none := by
  rw [readSegmentRecord, field_head, readNo_byte_none above]

/-! ### Payloads of several fields: one field that its reader refuses refuses the payload -/

section Fields

variable {p : List Byte}

theorem readPatchSet_none (refused : readNo 8 (field p 0 1) = none ∨ readNo 2016 (field p 1 2) = none ∨
    readSegmentRecord (field p 3 26) = none) : readPatchSet p = none := by
  rw [readPatchSet]
  split
  next _ _ _ entry slot record => simp [entry, slot, record] at refused
  next => exact ofLength_none _ _

theorem readSegmentWrite_none (refused : readNo 2016 (field p 0 2) = none ∨ readSegmentRecord (field p 2 26) = none) :
    readSegmentWrite p = none := by
  rw [readSegmentWrite]
  split
  next _ _ slot record => simp [slot, record] at refused
  next => exact ofLength_none _ _

theorem readProtect_none (refused : readNo 64 (field p 0 1) = none ∨ readOnOff (field p 1 1) = none) :
    readProtect p = none := by
  rw [readProtect]
  split
  next _ _ sector state => simp [sector, state] at refused
  next => exact ofLength_none _ _

theorem readMove_none (refused : readNo 17 (field p 0 1) = none ∨ readMoveDirection (field p 5 1) = none) :
    readMove p = none := by
  rw [readMove]
  split
  next _ _ axis direction => simp [axis, direction] at refused
  next => exact ofLength_none _ _

theorem readAxisParam_none (refused : readNo 17 (field p 0 1) = none) : readAxisParam p = none := by
  rw [readAxisParam, refused, ofLength_none]

theorem readSnapshotEdit_none (refused : readOnOff (field p 0 1) = none) : readSnapshotEdit p = none := by
  rw [readSnapshotEdit, refused, Option.map_none, ofLength_none]

theorem readWatchSet_none (refused : readNo 4 (field p 0 1) = none ∨ readAction (field p 16 1) = none) :
    readWatchSet p = none := by
  rw [readWatchSet]
  split
  next _ _ _ _ _ entry _ _ _ action => simp [entry, action] at refused
  next => exact ofLength_none _ _

theorem readGuardArm_none (refused : readGuardInterval (field p 0 2) = none ∨ 2 ≤ beNat (field p 2 1)) :
    readGuardArm p = none := by
  rw [readGuardArm]
  split
  next _ interval action => simp [interval, action] at refused
  next _ interval action => simp [interval, action] at refused
  next => exact ofLength_none _ _

end Fields

/-! ### Where a field stands in a payload -/

theorem field_last {r : List Byte} {i : Nat} (b : Byte) (len : r.length = i) : field (r ++ [b]) i 1 = [b] := by
  simp [field, ← len]

/-- The segment record of a SEGMENT WRITE (R201). -/
theorem field_segmentWrite (slot : Int) {record : List Byte} (len : record.length = 26) :
    field (beBytes 2 slot ++ record) 2 26 = record := by
  rw [field_skip (by simp), beBytes_length, field_all len]

/-- The slot of a PATCH SET (R201). -/
theorem field_patchSlot (entry slot : Int) (record : List Byte) :
    field (beBytes 1 entry ++ beBytes 2 slot ++ record) 1 2 = beBytes 2 slot := by
  simp [List.append_assoc, field_left, field_skip]

/-- The segment record of a PATCH SET (R201). -/
theorem field_patchRecord (entry slot : Int) {record : List Byte} (len : record.length = 26) :
    field (beBytes 1 entry ++ beBytes 2 slot ++ record) 3 26 = record := by
  simp [List.append_assoc, field_skip, field_all len]

/-! ### SEGMENT WRITE and PATCH SET, which carry the same slot and record -/

/-- Both refuse a record that is no well-formed segment, whatever slot and entry stand before it (R59, R73). -/
theorem misread_writes_of_record {record : List Byte} (len : record.length = 26) (refused : readSegmentRecord record = none)
    (entry slot : Int) :
    Misread 0x10 (beBytes 2 slot ++ record) ∧ Misread 0x07 (beBytes 1 entry ++ beBytes 2 slot ++ record) := by
  constructor
  · exact .segmentWrite (readSegmentWrite_none (.inr (by rwa [field_segmentWrite slot len])))
  · exact .patchSet (readPatchSet_none (.inr (.inr (by rwa [field_patchRecord entry slot len]))))

/-- Both refuse a slot above 2,015, whatever record stands behind it (R59, R73). -/
theorem misread_writes_of_slot {n : Nat} (above : 2016 ≤ n) (fits : n < 2 ^ 16) (entry : Int) (r : List Byte) :
    Misread 0x10 (beBytes 2 n ++ r) ∧ Misread 0x07 (beBytes 1 entry ++ beBytes 2 n ++ r) := by
  have slot := readSlot_none above fits
  constructor
  · exact .segmentWrite (readSegmentWrite_none (.inl (by rwa [field_left (beBytes_length ..)])))
  · exact .patchSet (readPatchSet_none (.inr (.inl (by rwa [field_patchSlot]))))

/-! ### The statement -/

/-- Settles O5, field by field: each is refused by its reader, and so the request is answered MALFORMED. -/
theorem malformedFieldsChangeNothing : Obligations.MalformedFieldsChangeNothing := by
  intro s l lines n b r m slot g refused
  have answered {k : Byte} {p : List Byte} (misread : Misread k p) : refused k p := exec_misread misread
  refine ⟨fun above => ?track, fun above => ?patch, fun above fits => ?slot, fun above => ?sector, fun above => ?onOff,
    fun above => ?axis, fun outside fits => ?set, fun above => ?code, fun above => ?watch, fun other fits => ?interval,
    fun span1 span2 start1 start2 outside => ?segment⟩
  case track =>
    have record := readSegmentRecord_track above r
    refine ⟨answered (.readTrack (readByte_none above)), fun len => ?_⟩
    obtain ⟨write, set⟩ := misread_writes_of_record (by simp [len]) record m.val slot.val
    exact ⟨answered write, answered set⟩
  case patch =>
    have entry := readByte_none above
    exact ⟨answered (.patchEnable entry), answered (.patchDisable entry), answered (.patchRead entry),
      fun _ => answered (.patchSet (readPatchSet_none (.inl (readNo_byte_none above))))⟩
  case slot =>
    obtain ⟨write, set⟩ := misread_writes_of_slot above fits m.val r
    exact ⟨answered (.readSegment (ofLength_readNo_none (by rwa [beNat_beBytes_nat fits]))),
      fun _ => ⟨answered write, answered set⟩⟩
  case sector =>
    exact ⟨answered (.sectorErase (readByte_none above)),
      fun _ => answered (.protect (readProtect_none (.inl (readNo_byte_none above))))⟩
  case onOff =>
    have state := readOnOff_above above
    refine ⟨fun len => answered (.protect (readProtect_none (.inr ?_))),
      fun _ => answered (.snapshotEdit (readSnapshotEdit_none state)),
      fun len => answered (.guardArm (readGuardArm_none (.inr ?_)))⟩
    · rwa [field_last b len]
    · rwa [field_last b len, beNat_singleton]
  case axis =>
    have number := readNo_byte_none above
    exact ⟨answered (.readAxis (readByte_none above)), answered (.clearFault (readByte_none above)),
      fun _ => ⟨answered (.move (readMove_none (.inl number))), answered (.setAxisParam (readAxisParam_none number))⟩⟩
  case set =>
    have axes := readAxisSet_none outside fits
    exact ⟨answered (.track axes), answered (.park axes), answered (.home axes)⟩
  case code =>
    refine ⟨fun len => answered (.move (readMove_none (.inr ?_))),
      fun len => answered (.watchSet (readWatchSet_none (.inr ?_)))⟩
    · rw [field_last b len, readMoveDirection_none above]
    · rw [field_last b len, readAction_none above]
  case watch =>
    have entry := readByte_none above
    exact ⟨answered (.watchEnable entry), answered (.watchDisable entry), answered (.watchClear entry),
      fun _ => answered (.watchSet (readWatchSet_none (.inl (readNo_byte_none above))))⟩
  case interval =>
    exact answered (.guardArm (readGuardArm_none (.inl (by
      rw [field_left (beBytes_length ..), readGuardInterval_none other fits]))))
  case segment =>
    have record := readSegmentRecord_none span1 span2 start1 start2 outside
    obtain ⟨write, set⟩ := misread_writes_of_record (segmentBytes_length g) record m.val slot.val
    exact ⟨answered write, answered set⟩

end Sys2Proof.Proofs
end

section
/-! PROOFS. A trip line seen active, and a qualified trip by the mode of its axis (R132 to R138). -/

namespace Sys2Proof.Proofs

open Machine Safety

/-! ### The trip filter (R132) -/

/-- An activation told of as still going on is held to the width it began with. -/
theorem latchedWidth_filtering {c : AxisChannel} {width : TripFilter} (line : c.tripLine = .filtering width) :
    latchedWidth c false = some width := by
  simp [latchedWidth, line]

/-- An activation that was never seen to begin, or that has qualified, is held to no width. -/
theorem latchedWidth_none {c : AxisChannel} (line : c.tripLine = .inactive ∨ c.tripLine = .qualified) :
    latchedWidth c false = none := by
  rcases line with line | line <;> simp [latchedWidth, line]

/-- Keeping the line as it stands changes nothing. -/
theorem setTripLine_self {s : State} {a : Axis} {line : TripLine} (same : (s.axis a).tripLine = line) :
    s.setTripLine a line = s := by
  subst same
  exact State.setAxis_self s a

section Seen

variable {s : State} {x : TripSeen}

theorem tripSeen_filters {width : TripFilter} (latched : latchedWidth (s.axis x.axis) x.anew = some width)
    (early : x.us < filterMicros width) : tripSeen s x = s.setTripLine x.axis (.filtering width) := by
  rcases tripSeen_cases s x with ⟨w, held, past, -⟩ | ⟨w, held, -, seen⟩ | ⟨held, -⟩ <;> rw [latched] at held <;> cases held
  · omega
  · exact seen

theorem tripSeen_qualifies {width : TripFilter} (latched : latchedWidth (s.axis x.axis) x.anew = some width)
    (past : filterMicros width ≤ x.us) : tripSeen s x = tripped (s.setTripLine x.axis .qualified) x.axis := by
  rcases tripSeen_cases s x with ⟨w, held, -, seen⟩ | ⟨w, held, early, -⟩ | ⟨held, -⟩ <;> rw [latched] at held <;> cases held
  · exact seen
  · omega

theorem tripSeen_unheld (unheld : latchedWidth (s.axis x.axis) x.anew = none) : tripSeen s x = s := by
  rw [tripSeen, unheld]

end Seen

/-! ### A qualified trip on a channel just written, by its mode (R133 to R138) -/

/-- The modes in which a trip disables the drive first and is then handled by the recovery mode (R133). -/
def DrivenMode (m : Mode) : Prop := (∀ cause, m ≠ .fault cause) ∧ ∀ prior left, m ≠ .recovering prior left

section Written

variable (s : State) (a : Axis) {c : AxisChannel} {prior : PriorMode}

/-- The first and second of a count wait for a retry (R134, R135). -/
theorem retryTrip_waits (few : c.tripCount < 2) : retryTrip (s.setAxis a c) a prior = waits s a prior (counted c) := by
  rw [retryTrip_setAxis s a c prior (by omega), if_pos few]

/-- The third of a count faults (R134, R138). -/
theorem retryTrip_faults (many : 2 ≤ c.tripCount) (most : c.tripCount ≤ 3) :
    retryTrip (s.setAxis a c) a prior = tripFaults s a (counted c) := by
  rw [retryTrip_setAxis s a c prior most, if_neg (by omega)]

theorem tripped_fault {cause : FaultCause} (mode : c.mode = .fault cause) :
    tripped (s.setAxis a c) a = s.setAxis a c := by
  rw [tripped, State.setAxis_axis_self, mode]

theorem tripped_recovering {left : Nat} (mode : c.mode = .recovering prior left) :
    tripped (s.setAxis a c) a = retryTrip (s.setAxis a c) a prior := by
  rw [tripped, State.setAxis_axis_self, mode]

/-- A trip of a driven axis is handled by its recovery mode, with its drive disabled at once (R133). -/
theorem tripped_driven (driven : DrivenMode c.mode) :
    tripped (s.setAxis a c) a =
      if c.params.recovery = .manual then tripFaults s a (disableDrive c)
      else retryTrip (s.setAxis a (disableDrive c)) a (priorOf c.mode) := by
  obtain ⟨sound, settled⟩ := driven
  unfold tripped
  rw [State.setAxis_axis_self]
  split
  next cause mode => exact absurd mode (sound cause)
  next before left mode => exact absurd mode (settled before left)
  next =>
    simp only [State.setAxis_setAxis, manualTrip_setAxis]
    cases c.params.recovery <;> rfl

end Written

/-! ### The statement -/

/-- Settles O32: the filter by the width the line is held to, and a qualified trip by the mode of its axis. -/
theorem qualifiedTripByMode : Obligations.QualifiedTripByMode := by
  intro s a anew us most c0 answers
  have answers_of {t : State} (seen : tripSeen s ⟨a, anew, us⟩ = t) : answers t := congrArg _ seen
  refine ⟨?began, ?goesOn, ?unheld, fun qualifies => ?qualified⟩
  case began =>
    rintro rfl early
    exact answers_of (tripSeen_filters rfl early)
  case goesOn =>
    rintro rfl width line early
    exact answers_of ((tripSeen_filters (latchedWidth_filtering line) early).trans (setTripLine_self line))
  case unheld =>
    rintro rfl line
    exact answers_of (tripSeen_unheld (latchedWidth_none line))
  case qualified =>
    intro c takes
    have seen : tripSeen s ⟨a, anew, us⟩ = tripped (s.setAxis a c) a := by
      rcases qualifies with ⟨rfl, past⟩ | ⟨rfl, width, line, past⟩
      · exact tripSeen_qualifies rfl past
      · exact tripSeen_qualifies (latchedWidth_filtering line) past
    have driven {m : Mode} (mode : c.mode = m) (free : DrivenMode m) : takes (priorOf m) := by
      subst mode
      have handled := seen.trans (tripped_driven s a free)
      refine ⟨fun manual => ?manual, fun retry few => ?waits, fun retry many => ?faults⟩
      case manual => exact answers_of (handled.trans (if_pos manual))
      all_goals rw [if_neg (by simp [retry])] at handled
      case waits => exact answers_of (handled.trans (retryTrip_waits s a (c := disableDrive c) few))
      case faults => exact answers_of (handled.trans (retryTrip_faults s a (c := disableDrive c) many most))
    refine ⟨fun cause mode => answers_of (seen.trans (tripped_fault s a mode)), fun prior left mode => ?recovering,
      fun mode => driven mode ⟨nofun, nofun⟩, fun mode => driven mode ⟨nofun, nofun⟩,
      fun mode => driven mode ⟨nofun, nofun⟩, fun x mode => driven mode ⟨nofun, nofun⟩,
      fun h mode => driven mode ⟨nofun, nofun⟩, fun mode => driven mode ⟨nofun, nofun⟩,
      fun mode => driven mode ⟨nofun, nofun⟩⟩
    case recovering =>
      have handled := seen.trans (tripped_recovering s a mode)
      exact ⟨fun few => answers_of (handled.trans (retryTrip_waits s a few)),
        fun many => answers_of (handled.trans (retryTrip_faults s a many most))⟩

end Sys2Proof.Proofs
end

section
/-! PROOFS. The expiries of the retry timer and of the trip window (R135 to R137, R140). -/

namespace Sys2Proof.Proofs

open Machine Safety

section Expiry

variable {s : State} {a : Axis} {prior : PriorMode}

/-- The line after a retry expiry that read it active: one first seen there starts its filter (R132, R136). -/
theorem readTripLine_active (c : AxisChannel) :
    readTripLine c true = if c.tripLine = .inactive then .filtering c.params.tripFilter else c.tripLine := by
  unfold readTripLine
  cases c.tripLine <;> rfl

/-- With the line inactive the axis returns to its remembered mode (R136). -/
theorem exec_retryExpiry_returns (mode : (s.axis a).mode = .recovering prior 0) :
    exec (.retryExpiry a false) s = .next (s.setAxis a
      { s.axis a with mode := modeOfPrior prior, tripLine := .inactive, lagging := false, v := 0, driveEnabled := true }) := by
  show execRetryExpiry a false s = _
  rw [execRetryExpiry, mode]
  simp only [State.setTripLine, State.setAxis_axis_self, State.setAxis_setAxis]
  rfl

/-- With the line active the expiry is a trip in RECOVERING (R135). -/
theorem exec_retryExpiry_trips (mode : (s.axis a).mode = .recovering prior 0) :
    exec (.retryExpiry a true) s = .next (retryTrip (s.setAxis a
      { s.axis a with
        tripLine := if (s.axis a).tripLine = .inactive then .filtering (s.axis a).params.tripFilter
          else (s.axis a).tripLine }) a prior) := by
  show execRetryExpiry a true s = _
  rw [execRetryExpiry, mode, ← readTripLine_active]
  rfl

/-- A retry timer with time left does not expire (R140; log 1). -/
theorem exec_retryExpiry_early {left : Nat} {line : Bool} (mode : (s.axis a).mode = .recovering prior (left + 1)) :
    exec (.retryExpiry a line) s = .next s := by
  show execRetryExpiry a line s = _
  rw [execRetryExpiry, mode]
  rfl

/-- The window's expiry clears the count and stops the window (R137). -/
theorem exec_tripWindowExpiry_due (due : (s.axis a).tripWindow = some 0) :
    exec (.tripWindowExpiry a) s = .next (s.setAxis a { s.axis a with tripCount := 0, tripWindow := none }) :=
  if_pos due

/-- A window with time left does not expire (log 1). -/
theorem exec_tripWindowExpiry_early {left : Nat} (window : (s.axis a).tripWindow = some (left + 1)) :
    exec (.tripWindowExpiry a) s = .next s :=
  if_neg (by simp [window])

end Expiry

/-- Settles O33: the return by the remembered mode, the trip in RECOVERING by its count, and no expiry with time left. -/
theorem retryAndWindowExpiry : Obligations.RetryAndWindowExpiry := by
  intro s a most c
  refine ⟨fun prior mode => ?expired, fun prior left line mode => exec_retryExpiry_early mode, exec_tripWindowExpiry_due,
    fun left => exec_tripWindowExpiry_early⟩
  intro back again
  have returns : back (modeOfPrior prior) := exec_retryExpiry_returns mode
  have trips : exec (.retryExpiry a true) s = .next (retryTrip (s.setAxis a again) a prior) := exec_retryExpiry_trips mode
  refine ⟨?parked, ?track, ?held, ?move, ?homing, fun few => ?waits, fun many => ?faults⟩
  case parked => rintro rfl; exact returns
  case track => rintro rfl; exact returns
  case held => rintro rfl; exact returns
  case move => rintro x rfl; exact returns
  case homing => rintro h rfl; exact returns
  case waits => rw [trips, retryTrip_waits s a (c := again) few]
  case faults => rw [trips, retryTrip_faults s a (c := again) many most]

end Sys2Proof.Proofs
end

section
/-! PROOFS. End switches, by a command and at the end of device reset (R139). -/

namespace Sys2Proof.Proofs

open Machine Safety

theorem switchActive_bounded (s : State) {a : Axis} (side : Side) (switched : bounded a = true) :
    switchActive s a side = reportFault (s.setAxis a (switchFault side (s.axis a))) a .endSwitch :=
  if_pos switched

theorem takeSwitches_append (switches : List (Axis × Side)) (a : Axis) (side : Side) (s : State) :
    takeSwitches (switches ++ [(a, side)]) s = switchActive (takeSwitches switches s) a side := List.foldl_append

/-- Settles O34: the fault reads no mode, and a reset takes its last listed switch on the state the others left. -/
theorem endSwitchFaultsAxis : Obligations.EndSwitchFaultsAxis := by
  constructor
  · intro s a side switched c
    exact congrArg _ (switchActive_bounded s side switched)
  · rintro s t trips switches a side ⟨⟩
    exact congrArg _ (takeSwitches_append switches a side _)

end Sys2Proof.Proofs
end

section
/-! PROOFS. The thermal monitor: a sample's warning, mark and hold cause (R142, R143, R152). -/

namespace Sys2Proof.Proofs

open Machine Safety

/-! ### A cause handed over, by the hold control (R147, R152) -/

theorem handCause_of_normal {s : State} {snap : Option Snapshot} (cause : HoldCause) (normal : s.holdCtl = .normal snap) :
    handCause s cause = enterHold s cause := by
  rw [handCause, normal]

theorem handCause_of_hold {s : State} {snap : Snapshot} (cause : HoldCause) (hold : s.holdCtl = .hold snap none) :
    handCause s cause = s.setHold (.hold snap (some cause)) := by
  rw [handCause, hold]

theorem handCause_of_pending {s : State} {snap : Snapshot} {pending : HoldCause} (cause : HoldCause)
    (hold : s.holdCtl = .hold snap (some pending)) : handCause s cause = s := by
  rw [handCause, hold]

/-! ### A sample (R142, R143) -/

/-- The state after a sample's temperature, warning and mark are kept and a changed warning is sent, before a hold cause. -/
def afterSample (s : State) (x : Int) : State :=
  sendWarning
    (s.setThermal
      { s.thermal with
        warning := warningAfter s.thermal x, latest := some x, overMark := decide (s.thermal.tw + 15 ≤ x) })
    s.thermal.warning (warningAfter s.thermal x) x

/-- The warning turns on at TW and off at TW - 5 (R142). -/
theorem warningAfter_eq (th : Thermal) (x : Int) :
    warningAfter th x = if th.warning then decide (th.tw - 5 < x) else decide (th.tw ≤ x) := by
  rw [warningAfter, ← decide_not]
  simp only [Int.not_le]

/-- THERMAL goes out at a change of the warning, and says which (R142). -/
theorem sendWarning_eq (s : State) (old new : Bool) (x : Int) :
    sendWarning s old new x =
      if new = old then s
      else if new then s.send (.thermal .warningOn x) else s.send (.thermal .warningOff x) := by
  cases old <;> cases new <;> rfl

theorem afterSample_holdCtl (s : State) (x : Int) : (afterSample s x).holdCtl = s.holdCtl := by
  unfold afterSample sendWarning
  split <;> rfl

section Sample

variable {s : State} {x : Int}

/-- A sample below TW + 15, or with the mark set already, hands over no cause (R143). -/
theorem exec_thermalSample_quiet (quiet : x < s.thermal.tw + 15 ∨ s.thermal.overMark = true) :
    exec (.thermalSample x) s = .next (afterSample s x) := by
  refine if_neg ?_
  simp only [Bool.and_eq_true, decide_eq_true_eq, Bool.not_eq_true']
  rintro ⟨hot, clear⟩
  rcases quiet with below | marked
  · omega
  · simp [marked] at clear

/-- A sample at TW + 15 with the mark clear sends THERMAL (OVER) and hands over the cause (R143). -/
theorem exec_thermalSample_over (hot : s.thermal.tw + 15 ≤ x) (clear : s.thermal.overMark = false) :
    exec (.thermalSample x) s = .next (handCause ((afterSample s x).send (.thermal .over x)) .thermal) :=
  if_pos (by simp [hot, clear])

end Sample

/-- Settles O35: the sample taken, and its cause by what the hold control holds. -/
theorem thermalSampleWarnsAndHolds : Obligations.ThermalSampleWarnsAndHolds := by
  intro s x th warn s1 s2
  have taken : afterSample s x = s2 := by rw [afterSample, sendWarning_eq, warningAfter_eq]
  refine ⟨fun quiet => ?quiet, fun hot clear => ?hot⟩
  case quiet => rw [exec_thermalSample_quiet quiet, taken]
  case hot =>
    intro s3
    have control : s3.holdCtl = s.holdCtl := by
      rw [State.send_holdCtl, ← taken, afterSample_holdCtl]
    have handed : exec (.thermalSample x) s = .next (handCause s3 .thermal) := by
      rw [exec_thermalSample_over hot clear, taken]
    refine ⟨fun snap normal => ?_, fun snap hold => ?_, fun snap pending hold => ?_⟩
    · rw [handed, handCause_of_normal _ (control.trans normal)]
    · rw [handed, handCause_of_hold _ (control.trans hold)]
    · rw [handed, handCause_of_pending _ (control.trans hold)]

end Sys2Proof.Proofs
end

section
/-! PROOFS. The requests CLEAR FAULT and SET THERMAL LIMIT from the holder (R141, R144). -/

namespace Sys2Proof.Proofs

open Machine Safety

/-! ### CLEAR FAULT (R141) -/

theorem lineActive_iff {a : Axis} {lines : Lines} :
    lineActive a lines = true ↔ lines.trip = true ∨ (bounded a = true ∧ (lines.low = true ∨ lines.high = true)) := by
  simp [lineActive]

/-- CLEAR FAULT on one axis (R141). -/
def clearOne (a : Axis) (lines : Lines) (s : State) : Handled :=
  if !(s.axis a).mode.isFault then answer s .noOperation
  else if lineActive a lines then answer s .active
  else answer (s.setAxis a (clearedFault (s.axis a))) .ok

section Taken

variable {s : State} {l : Link} {a : Axis} {lines : Lines}

theorem exec_clearFault {h : Handled} (granted : s.grant.holder = some l) (ready : Ready s l 0x26 (beBytes 1 a.val))
    (handled : clearOne a lines (s.dropFrame l) = h) :
    exec (.clearFault l (beBytes 1 a.val) lines) s = .next (replied h.state l 0x26 h.status h.data) := by
  show execClearFault l _ lines s = _
  unfold execClearFault
  refine take_replied ready ?_
  rw [readAxisNo_beBytes]
  simp only
  rw [needGrant_holder (s := s.dropFrame l) granted]
  exact handled

theorem clearOne_noOperation (sound : ∀ cause, (s.axis a).mode ≠ .fault cause) :
    clearOne a lines s = answer s .noOperation := by
  refine if_pos ?_
  rw [Bool.not_eq_true', ← Bool.not_eq_true, isFault_iff, not_exists]
  exact sound

theorem clearOne_faulted {cause : FaultCause} (mode : (s.axis a).mode = .fault cause) :
    clearOne a lines s =
      if lineActive a lines then answer s .active else answer (s.setAxis a (clearedFault (s.axis a))) .ok :=
  if_neg (by simp [isFault_iff, mode])

end Taken

/-! ### SET THERMAL LIMIT (R144) -/

/-- The value taken, from what R144 says of it. -/
theorem takeTw_eq {x y : Int} (step : y % 5 = 0)
    (nearest : (x < 60 ∧ y = 60) ∨ (115 < x ∧ y = 115) ∨ (60 ≤ x ∧ x ≤ 115 ∧ y ≤ x ∧ x < y + 5)) : takeTw x = y := by
  rw [takeTw, clamp_eq (by decide)]
  omega

theorem exec_setThermalLimit {s : State} {l : Link} {x : Int} (low : -128 ≤ x) (high : x ≤ 127)
    (granted : s.grant.holder = some l) (ready : Ready s l 0x27 (beBytes 1 x)) :
    exec (.setThermalLimit l (beBytes 1 x)) s =
      .next (replied ((s.dropFrame l).setThermal { s.thermal with tw := takeTw x }) l 0x27
        (if takeTw x = x then .ok else .clamped) .none) := by
  show execSetThermalLimit l _ s = _
  unfold execSetThermalLimit
  rw [take_replied (k := kSetThermalLimit) ready rfl, readTw_beBytes low high]
  simp only
  rw [needGrant_holder (s := s.dropFrame l) granted, clampedIf_ne]
  rfl

/-- Settles O36: CLEAR FAULT by the mode and the lines, SET THERMAL LIMIT by the value taken. -/
theorem clearFaultAndThermalLimit : Obligations.ClearFaultAndThermalLimit := by
  constructor
  · intro s l a lines granted ready q c active
    refine ⟨fun sound => exec_clearFault granted ready (clearOne_noOperation (s := q) sound), fun cause mode => ?_⟩
    have faulted := clearOne_faulted (s := q) (lines := lines) mode
    refine ⟨fun busy => exec_clearFault granted ready (faulted.trans (if_pos (lineActive_iff.mpr busy))),
      fun quiet => exec_clearFault granted ready (faulted.trans (if_neg (mt lineActive_iff.mp quiet)))⟩
  · intro s l x y low high granted ready step nearest
    rw [exec_setThermalLimit low high granted ready, takeTw_eq step nearest]

end Sys2Proof.Proofs
end

section
/-! PROOFS. The hold law in its two parts, sky time that stands and the modes that a hold state admits, and the modes that
each change of a channel leads to (R89, R105, R112, R128 to R141, R149, R157). -/

namespace Sys2Proof.Proofs

open Machine Safety

/-! ### The law in two parts (R148, R149, R151) -/

/-- The modes that an axis may have in HOLD and in NORMAL. -/
def ModeAllowed : Bool → Mode → Prop
  | true => ModeInHold
  | false => ModeInNormal

/-- The prior modes that RECOVERING may remember in HOLD and in NORMAL. -/
def PriorAllowed : Bool → PriorMode → Prop
  | true => fun prior => prior = .held ∨ prior = .parked
  | false => fun prior => prior ≠ .held

/-- In HOLD both rates are 0 and sky time is the entry T. -/
def ClockStands : HoldCtl → Clock → Prop
  | .hold snap _, c => c.r = 0 ∧ c.rt = 0 ∧ c.t = snap.entryT
  | .normal _, _ => True

theorem holdLaw_iff (s : State) :
    HoldLaw s ↔ ClockStands s.holdCtl s.clock ∧ ∀ a : Axis, ModeAllowed s.inHold (s.axis a).mode := by
  unfold HoldLaw State.inHold
  cases s.holdCtl with
  | normal snap => simp only [ClockStands, ModeAllowed, true_and]
  | hold snap p => simp only [ClockStands, ModeAllowed, and_assoc]

/-- The hold state in the words of its control (R146). -/
theorem inHold_eq_false_iff {s : State} : s.inHold = false ↔ ∃ snap, s.holdCtl = .normal snap := by
  unfold State.inHold
  cases s.holdCtl <;> simp

theorem inHold_eq_true_iff {s : State} : s.inHold = true ↔ ∃ snap p, s.holdCtl = .hold snap p := by
  unfold State.inHold
  cases s.holdCtl <;> simp

theorem inHold_of_normal {s : State} {snap : Option Snapshot} (normal : s.holdCtl = .normal snap) : s.inHold = false :=
  inHold_eq_false_iff.mpr ⟨snap, normal⟩

theorem inHold_of_hold {s : State} {snap : Snapshot} {p : Option HoldCause} (hold : s.holdCtl = .hold snap p) :
    s.inHold = true :=
  inHold_eq_true_iff.mpr ⟨snap, p, hold⟩

/-- In NORMAL sky time is free to run. -/
theorem clockStands_of_normal {s : State} (normal : s.inHold = false) (c : Clock) : ClockStands s.holdCtl c := by
  obtain ⟨snap, control⟩ := inHold_eq_false_iff.mp normal
  rw [control]
  trivial

theorem clockStands_stop {x : HoldCtl} {c : Clock} (stands : ClockStands x c) : ClockStands x c.stop := by
  cases x with
  | normal snap => trivial
  | hold snap p => exact ⟨rfl, rfl, stands.2.2⟩

theorem clockStands_releaseTarget {x : HoldCtl} {c : Clock} (stands : ClockStands x c) :
    ClockStands x c.releaseTarget := by
  cases x with
  | normal snap => trivial
  | hold snap p => exact ⟨stands.1, rfl, stands.2.2⟩

/-! ### Modes that both hold states admit, and modes that lead to each other -/

theorem parked_allowed (held : Bool) : ModeAllowed held .parked := by cases held <;> trivial

theorem fault_allowed (held : Bool) (cause : FaultCause) : ModeAllowed held (.fault cause) := by cases held <;> trivial

theorem recovering_allowed_iff {held : Bool} {prior : PriorMode} {left : Nat} :
    ModeAllowed held (.recovering prior left) ↔ PriorAllowed held prior := by
  cases held <;> rfl

/-- The mode remembered at a trip belongs to the hold state that the trip finds (R134). -/
theorem priorOf_allowed {held : Bool} {m : Mode} (allowed : ModeAllowed held m) : PriorAllowed held (priorOf m) := by
  cases held with
  | true =>
    cases m with
    | parked | fault => exact .inr rfl
    | held => exact .inl rfl
    | recovering prior left => exact allowed
    | stopping next => cases allowed; exact .inl rfl
    | track | move | homing => exact allowed.elim
  | false =>
    cases m with
    | held => exact allowed.elim
    | recovering prior left => exact allowed
    | stopping next =>
      cases next with
      | parked => nofun
      | held => exact absurd rfl allowed
    | parked | track | move | homing | fault => nofun

theorem modeOfPrior_allowed {held : Bool} {prior : PriorMode} (allowed : PriorAllowed held prior) :
    ModeAllowed held (modeOfPrior prior) := by
  cases held with
  | true => rcases allowed with rfl | rfl <;> trivial
  | false =>
    cases prior with
    | held => exact absurd rfl allowed
    | parked | track | move | homing => trivial

/-- An axis homes in NORMAL alone, so that any mode of NORMAL may follow. -/
theorem allowed_after_homing {held : Bool} {h : HomingRecord} {m : Mode} (homes : ModeAllowed held (.homing h))
    (next : ModeInNormal m) : ModeAllowed held m := by
  cases held with
  | true => exact homes.elim
  | false => exact next

/-! ### Changes of one channel -/

/-- Hold entry leads each mode of NORMAL to one of HOLD (R149). -/
theorem holdTreat_inHold {c : AxisChannel} (normal : ModeInNormal c.mode) : ModeInHold (holdTreat c).mode := by
  unfold holdTreat
  cases mode : c.mode with
  | held => rw [mode] at normal; exact normal.elim
  | fault cause => simp only [mode]; trivial
  | parked => trivial
  | track | move | homing | stopping => rfl
  | recovering prior left => exact .inl rfl

theorem restoredMode_notHeld (a : Axis) (sv : SavedAxis) (c : AxisChannel) : restoredMode a sv c ≠ .held := by
  unfold restoredMode
  split
  · split <;> nofun
  · nofun

/-- RESUME leads each mode of HOLD to one of NORMAL (R157). -/
theorem restoreAxis_inNormal {a : Axis} (sv : SavedAxis) {c : AxisChannel} (held : ModeInHold c.mode) :
    ModeInNormal (restoreAxis a sv c).mode := by
  have free := restoredMode_notHeld a sv c
  unfold restoreAxis
  cases mode : c.mode with
  | track | move | homing => rw [mode] at held; exact held.elim
  | parked | fault => simp only [mode]; trivial
  | held => exact modeOfPrior_allowed (held := false) free
  | stopping next =>
    rw [mode] at held
    obtain rfl : next = .held := held
    simp only
    split
    · trivial
    · trivial
    · nofun
  | recovering prior left =>
    rw [mode] at held
    rcases held with rfl | rfl
    · exact free
    · simp only [mode]
      nofun

theorem enterTrack_mode (c : AxisChannel) : (enterTrack c).mode = .track := by
  rw [enterTrack_eq]
  split
  next track => exact track
  next => rfl

theorem parkAxis_inNormal {c : AxisChannel} (normal : ModeInNormal c.mode) : ModeInNormal (parkAxis c).mode := by
  unfold parkAxis
  cases mode : c.mode with
  | parked | held | fault => simpa only [mode] using normal
  | track | move | homing | stopping | recovering => nofun

/-- The end of an update in MOVE and STOPPING stays within the hold state (R105). -/
theorem restMode_allowed {held : Bool} {c : AxisChannel} (allowed : ModeAllowed held c.mode) :
    ModeAllowed held (restMode c).mode := by
  unfold restMode
  split
  next =>
    split
    · exact parked_allowed held
    · exact allowed
  next =>
    split
    · exact parked_allowed held
    · exact allowed
  next mode =>
    split
    next =>
      rw [mode] at allowed
      cases held with
      | true => trivial
      | false => exact absurd rfl allowed
    next => exact allowed
  next => exact allowed

/-- An index edge leaves the mode but for the phase of a homing (R128). -/
theorem indexEdge_allowed {held : Bool} {c : AxisChannel} (allowed : ModeAllowed held c.mode) :
    ModeAllowed held (indexEdge c).mode := by
  unfold indexEdge
  split
  next h mode =>
    rw [mode] at allowed
    split
    · exact allowed_after_homing allowed trivial
    · split
      · exact allowed_after_homing allowed trivial
      · rwa [mode]
    · rwa [mode]
    · rwa [mode]
  next => exact allowed

theorem elapse_allowed {held : Bool} {c : AxisChannel} (allowed : ModeAllowed held c.mode) :
    ModeAllowed held c.elapse.mode := by
  unfold AxisChannel.elapse
  cases mode : c.mode with
  | recovering prior left =>
    rw [mode, recovering_allowed_iff] at allowed
    exact recovering_allowed_iff.mpr allowed
  | parked | held | track | move | homing | stopping | fault => rwa [mode] at allowed

/-- A homing goes on, ends PARKED or fails (R120 to R127). -/
theorem homingEnd_inNormal (s : State) (a : Axis) (c : AxisChannel) (h : HomingRecord) (moved vmax : Int) :
    ModeInNormal (homingEnd s a c h moved vmax).2.mode := by
  have ended : ModeInNormal (settled s a c).2.mode := by
    unfold settled
    split <;> trivial
  cases phase : h.phase with
  | seek =>
    rw [homingEnd_seek s a c moved vmax phase]
    split <;> trivial
  | backoff =>
    rw [homingEnd_backoff s a c moved vmax phase]
    simp only
    split <;> trivial
  | creep =>
    rw [homingEnd_creep s a c moved vmax phase]
    trivial
  | settle =>
    rw [homingEnd_settle s a c moved vmax phase]
    split
    · exact ended
    · trivial

end Sys2Proof.Proofs
end

section
/-! PROOFS. The hold law is kept by every step (R148 to R158): by what hands over a cause, by the watch unit, by the profile
update and by every command. Sky time in HOLD does not saturate at a clock step, for the clock law keeps it in range. -/

namespace Sys2Proof.Proofs

open Machine Safety

/-! ### Writes to the state (blocks other than clock, axes and hold state leave the law as it is) -/

theorem holdLaw_ignoresLinks : IgnoresLinks HoldLaw := fun _ _ h => h

theorem holdLaw_ignoresBall : Ignores HoldLaw State.setBall := fun _ _ h => h

theorem holdLaw_ignoresPatches : Ignores HoldLaw State.setPatches := fun _ _ h => h

theorem holdLaw_ignoresStore : Ignores HoldLaw State.setStore := fun _ _ h => h

theorem holdLaw_ignoresThermal : Ignores HoldLaw State.setThermal := fun _ _ h => h

theorem holdLaw_ignoresWatches : Ignores HoldLaw State.setWatches := fun _ _ h => h

theorem holdLaw_send {s : State} (h : HoldLaw s) (e : Event) : HoldLaw (s.send e) := h

theorem holdLaw_setLink {s : State} (h : HoldLaw s) (l : Link) (x : LinkState) : HoldLaw (s.setLink l x) := h

section Law

variable {s : State} (h : HoldLaw s)
include h

theorem clockStands_of_holdLaw : ClockStands s.holdCtl s.clock := ((holdLaw_iff s).mp h).1

theorem mode_allowed (a : Axis) : ModeAllowed s.inHold (s.axis a).mode := ((holdLaw_iff s).mp h).2 a

theorem mode_inNormal (normal : s.inHold = false) (a : Axis) : ModeInNormal (s.axis a).mode := by
  have allowed := mode_allowed h a
  rwa [normal] at allowed

theorem holdLaw_setClock {c : Clock} (stands : ClockStands s.holdCtl c) : HoldLaw (s.setClock c) :=
  have allowed := mode_allowed h
  (holdLaw_iff _).mpr ⟨stands, allowed⟩

theorem holdLaw_setAxis {a : Axis} {c : AxisChannel} (allowed : ModeAllowed s.inHold c.mode) : HoldLaw (s.setAxis a c) := by
  have stands := clockStands_of_holdLaw h
  refine (holdLaw_iff _).mpr ⟨stands, fun b => ?_⟩
  rw [State.setAxis_axis, State.setAxis_inHold]
  split
  · exact allowed
  · exact mode_allowed h b

/-- A change of a set of axes in NORMAL. -/
theorem holdLaw_changeSet (normal : s.inHold = false) (set : List Axis) {f : AxisChannel → AxisChannel}
    (kept : ∀ c, ModeInNormal c.mode → ModeInNormal (f c).mode) : HoldLaw (s.changeSet set f) := by
  have stands := clockStands_of_holdLaw h
  refine (holdLaw_iff _).mpr ⟨stands, fun a => ?_⟩
  unfold State.changeSet
  rw [State.setAxes_axis, Table.get_build, State.setAxes_inHold, normal]
  have before := mode_inNormal h normal a
  split
  · exact kept _ before
  · exact before

/-- HOLD goes on with another snapshot of the same entry T, or another pending cause. -/
theorem holdLaw_setHold {snap snap' : Snapshot} {p : Option HoldCause} (hold : s.holdCtl = .hold snap p)
    (entry : snap'.entryT = snap.entryT) (p' : Option HoldCause) : HoldLaw (s.setHold (.hold snap' p')) := by
  have stands := clockStands_of_holdLaw h
  have allowed := mode_allowed h
  rw [hold] at stands
  obtain ⟨rest, target, still⟩ := stands
  rw [inHold_of_hold hold] at allowed
  exact (holdLaw_iff _).mpr ⟨⟨rest, target, still.trans entry.symm⟩, allowed⟩

/-! ### Hold causes, the watch unit and the grant (R147 to R152, R165 to R172, R185) -/

theorem enterHold_keeps_holdLaw (normal : s.inHold = false) (cause : HoldCause) : HoldLaw (enterHold s cause) := by
  refine (holdLaw_iff _).mpr ⟨⟨rfl, rfl, rfl⟩, fun a => ?_⟩
  rw [enterHold_axis]
  exact holdTreat_inHold (mode_inNormal h normal a)

theorem handCause_keeps_holdLaw (cause : HoldCause) : HoldLaw (handCause s cause) := by
  rcases handCause_cases s cause with ⟨_, normal, e⟩ | ⟨_, hold, e⟩ | ⟨_, _, _, e⟩ <;> rw [e]
  · exact enterHold_keeps_holdLaw h (inHold_of_normal normal) cause
  · exact holdLaw_setHold h hold rfl _
  · exact h

/-- A change tested by the watch unit, where its PAUSE leaves a standing clock. -/
theorem observe_keeps_holdLaw (subject : WatchSubject) (ch : Change)
    (stands : ∀ references, ClockStands s.holdCtl (pauseClock s.clock subject ch references)) :
    HoldLaw (observe s subject ch) := by
  obtain ⟨t, ht, outcome⟩ := observe_cases s subject ch
  have fired : HoldLaw t := by
    have modes : ∀ a, ModeAllowed s.inHold (s.axis a).mode := mode_allowed h
    have hold : t.holdCtl = s.holdCtl := by simp [ht]
    have axes : t.axes = s.axes := by simp [ht]
    have held : t.inHold = s.inHold := by rw [State.inHold, hold, State.inHold]
    have clock : t.clock = pauseClock s.clock subject ch ((firedWith s subject ch .pause).map (watchReference s)) := by
      rw [ht, State.setClock_clock]
    rw [holdLaw_iff, hold, clock, held]
    refine ⟨stands _, fun a => ?_⟩
    rw [State.axis, axes]
    exact modes a
  rcases outcome with ⟨_, e⟩ | ⟨_, _, _, e⟩ <;> rw [e]
  · exact fired
  · exact handCause_keeps_holdLaw fired _

theorem observe_keeps_holdLaw_normal (normal : s.inHold = false) (subject : WatchSubject) (ch : Change) :
    HoldLaw (observe s subject ch) :=
  observe_keeps_holdLaw h subject ch fun _ => clockStands_of_normal normal _

/-- The PAUSE of an entry on an axis is a stop, which a standing clock does not feel (R172). -/
theorem observeAxis_keeps_holdLaw (a : Axis) (old new : Int) : HoldLaw (observeAxis s a old new) := by
  refine observe_keeps_holdLaw h (.axis a) _ fun references => ?_
  have stands := clockStands_of_holdLaw h
  cases references with
  | nil => exact stands
  | cons r rest => exact clockStands_stop stands

theorem releaseGrant_keeps_holdLaw (reason : GrantReason) : HoldLaw (releaseGrant s reason) := by
  rcases releaseGrant_cases s reason with ⟨_, e⟩ | ⟨_, _, _, e⟩ <;> rw [e] <;> exact h

end Law

/-- A refusal in hold leaves a command's effect to NORMAL (R151). -/
theorem needNormal_keeps_of_normal {P : State → Prop} {s : State} {x : Handled} (here : P s)
    (handled : s.inHold = false → P x.state) : P (needNormal s x).state := by
  cases held : s.inHold with
  | true =>
    rw [needNormal_hold held]
    exact here
  | false =>
    rw [needNormal_normal held]
    exact handled held

/-! ### The sky clock (R3 to R11) -/

/-- A clock at rest within the range of sky time stands through a clock step. -/
theorem stepped_at_rest {s : State} (rest : s.clock.r = 0) (target : s.clock.rt = 0)
    (range : skyMin ≤ s.clock.t ∧ s.clock.t ≤ skyMax) : stepped s = s := by
  have still : s.clock.r + (s.clock.rt - s.clock.r).sign * min |s.clock.rt - s.clock.r| (max 256 (|s.clock.r| / 64)) = 0 := by
    rw [rest, target]
    rfl
  have clock : s.clock = { t := s.clock.t + 0, r := 0, rt := s.clock.rt } := by
    rw [add_zero, ← rest]
  unfold stepped
  simp only [still]
  rw [if_neg (by omega), if_neg (by omega), ← clock]
  rfl

theorem stepped_keeps_holdLaw {s : State} (h : HoldLaw s) (normal : s.inHold = false) :
    HoldLaw (stepped s) ∧ (stepped s).inHold = false := by
  have free (c : Clock) : HoldLaw (s.setClock c) := holdLaw_setClock h (clockStands_of_normal normal c)
  unfold stepped
  simp only
  split_ifs
  · exact ⟨holdLaw_send (free _) _, normal⟩
  · exact ⟨holdLaw_send (free _) _, normal⟩
  · exact ⟨free _, normal⟩

/-- Sky time that stands is no change to the watch unit; in NORMAL the step may change the clock as it will (R3 to R6). -/
theorem exec_clockStep_keeps_holdLaw {s t : State} (range : ClockLaw s) (h : HoldLaw s) (ht : exec .clockStep s = .next t) :
    HoldLaw t := by
  rw [exec_clockStep] at ht
  cases ht
  cases control : s.holdCtl with
  | hold snap p =>
    have stands := clockStands_of_holdLaw h
    rw [control] at stands
    obtain ⟨rest, target, _⟩ := stands
    rw [stepped_at_rest rest target range.1.1, observe_still]
    exact h
  | normal snap =>
    obtain ⟨moved, normal⟩ := stepped_keeps_holdLaw h (inHold_of_normal control)
    exact observe_keeps_holdLaw_normal moved normal _ _

theorem execSetRate_keeps_holdLaw (l : Link) (p : List Byte) : Keeps HoldLaw (execSetRate l p) :=
  keeps_take holdLaw_ignoresLinks fun s h => by
    split
    · exact h
    · exact needGrant_keeps h (needNormal_keeps_of_normal h fun normal =>
        holdLaw_setClock h (clockStands_of_normal normal _))

theorem jumpTo_keeps_holdLaw {s : State} (h : HoldLaw s) (normal : s.inHold = false) (t : Int) :
    HoldLaw (jumpTo s t).state :=
  have moved : HoldLaw (s.setClock { s.clock with t := clampSky t }) :=
    holdLaw_setClock h (clockStands_of_normal normal _)
  observe_keeps_holdLaw_normal moved normal _ _

theorem execSetTime_keeps_holdLaw (l : Link) (p : List Byte) : Keeps HoldLaw (execSetTime l p) :=
  keeps_take holdLaw_ignoresLinks fun s h => by
    split
    · exact h
    · exact needGrant_keeps h (needNormal_keeps_of_normal h fun normal => jumpTo_keeps_holdLaw h normal _)

theorem execNudge_keeps_holdLaw (l : Link) (p : List Byte) : Keeps HoldLaw (execNudge l p) :=
  keeps_take holdLaw_ignoresLinks fun s h => by
    split
    · exact h
    · exact needGrant_keeps h (needNormal_keeps_of_normal h fun normal => jumpTo_keeps_holdLaw h normal _)

/-! ### Star ball geometry and the thermal monitor (R25 to R29, R142 to R144) -/

theorem execSetSite_keeps_holdLaw (l : Link) (p : List Byte) : Keeps HoldLaw (execSetSite l p) :=
  keeps_take holdLaw_ignoresLinks fun s h => by
    split
    · exact h
    · exact needGrant_keeps h h

theorem execCoupleOff_keeps_holdLaw (l : Link) (p : List Byte) : Keeps HoldLaw (execCoupleOff l p) := by
  intro s t h ht
  unfold execCoupleOff at ht
  split at ht
  · cases ht
    exact h
  · exact keeps_take holdLaw_ignoresLinks (fun _ hu => handleCouple_keeps holdLaw_ignoresBall hu l p) s t h ht

theorem execCoupleOn_keeps_holdLaw (l : Link) (p : List Byte) : Keeps HoldLaw (execCoupleOn l p) := by
  intro s t h ht
  unfold execCoupleOn at ht
  split at ht
  · cases ht
    exact h
  · exact keeps_take holdLaw_ignoresLinks (fun _ hu => handleCouple_keeps holdLaw_ignoresBall hu l p) s t h ht

theorem execSetThermalLimit_keeps_holdLaw (l : Link) (p : List Byte) : Keeps HoldLaw (execSetThermalLimit l p) :=
  keeps_take holdLaw_ignoresLinks fun s h => by
    split
    · exact h
    · exact needGrant_keeps h h

theorem afterSample_keeps_holdLaw {s : State} (h : HoldLaw s) (celsius : Int) : HoldLaw (afterSample s celsius) := by
  unfold afterSample sendWarning
  split <;> exact h

theorem exec_thermalSample_keeps_holdLaw (celsius : Int) : Keeps HoldLaw (exec (.thermalSample celsius)) := by
  intro s t h ht
  have sampled := afterSample_keeps_holdLaw h celsius
  by_cases hot : s.thermal.tw + 15 ≤ celsius ∧ s.thermal.overMark = false
  · rw [exec_thermalSample_over hot.1 hot.2] at ht
    cases ht
    exact handCause_keeps_holdLaw (holdLaw_send sampled _) _
  · have quiet : celsius < s.thermal.tw + 15 ∨ s.thermal.overMark = true := by
      rcases not_and_or.mp hot with below | marked
      · exact .inl (by omega)
      · exact .inr (by simpa using marked)
    rw [exec_thermalSample_quiet quiet] at ht
    cases ht
    exact sampled

/-! ### The profile update and the index edge (R94 to R105, R118 to R128) -/

/-- A state that differs from another in the evaluator and the links alone. -/
def Evaluated (s t : State) : Prop := ∃ e x, t = (s.setEph e).setLinks x

theorem Evaluated.refl (s : State) : Evaluated s s := ⟨s.eph, s.links, rfl⟩

theorem Evaluated.setEph (s : State) (e : Evaluator) : Evaluated s (s.setEph e) := ⟨e, s.links, rfl⟩

theorem Evaluated.trans {s t u : State} (first : Evaluated s t) (second : Evaluated t u) : Evaluated s u := by
  obtain ⟨_, _, rfl⟩ := first
  obtain ⟨_, _, rfl⟩ := second
  exact ⟨_, _, rfl⟩

theorem Evaluated.send {s t : State} (evaluated : Evaluated s t) (e : Event) : Evaluated s (t.send e) :=
  evaluated.trans ⟨t.eph, t.links.map (LinkState.push e), rfl⟩

theorem Evaluated.holdLaw {s t : State} (evaluated : Evaluated s t) (h : HoldLaw s) : HoldLaw t := by
  obtain ⟨_, _, rfl⟩ := evaluated
  exact h

theorem Evaluated.inHold {s t : State} (evaluated : Evaluated s t) : t.inHold = s.inHold := by
  obtain ⟨_, _, rfl⟩ := evaluated
  rfl

theorem evaluateTrack_evaluated (s : State) (k : Track) : Evaluated s (evaluateTrack s k) := by
  unfold evaluateTrack sendSourceChange
  simp only
  split_ifs
  · exact .setEph s _
  · exact (Evaluated.setEph s _).send _

theorem evaluatePhase_evaluated (s : State) : Evaluated s (evaluatePhase s) := by
  have both := (evaluateTrack_evaluated s 1).trans (evaluateTrack_evaluated _ 0)
  rcases evaluatePhase_cases s with e | ⟨_, e⟩ <;> rw [e]
  · exact both
  · exact both.trans (.setEph _ _)

theorem roleTarget_evaluated (s : State) (a : Axis) : Evaluated s (roleTarget s a).1 := by
  unfold roleTarget
  split_ifs
  · exact .refl s
  · exact .refl s
  · exact .refl s
  · cases axisTrack a with
    | none => exact evaluatePhase_evaluated s
    | some k => exact evaluateTrack_evaluated s k

theorem softClamp_evaluated (s : State) (a : Axis) (c : AxisChannel) : Evaluated s (softClamp s a c).1 := by
  unfold softClamp
  split
  · exact (Evaluated.refl s).send _
  · exact .refl s

theorem lagTest_evaluated (s : State) (a : Axis) (c : AxisChannel) (e : Int) : Evaluated s (lagTest s a c e).1 := by
  unfold lagTest
  split_ifs
  · exact .refl s
  · exact (Evaluated.refl s).send _
  · exact .refl s

theorem homingEnd_evaluated (s : State) (a : Axis) (c : AxisChannel) (h : HomingRecord) (moved vmax : Int) :
    Evaluated s (homingEnd s a c h moved vmax).1 := by
  have told (e : Event) : Evaluated s (s.send e) := (Evaluated.refl s).send e
  have ended : Evaluated s (settled s a c).1 := by
    unfold settled
    split
    · exact told _
    · exact told _
  cases phase : h.phase with
  | seek =>
    rw [homingEnd_seek s a c moved vmax phase]
    split
    · exact told _
    · exact .refl s
  | backoff =>
    rw [homingEnd_backoff s a c moved vmax phase]
    exact .refl s
  | creep =>
    rw [homingEnd_creep s a c moved vmax phase]
    exact .refl s
  | settle =>
    rw [homingEnd_settle s a c moved vmax phase]
    split
    · exact ended
    · exact .refl s

/-- The stages of an update change no more of the state than the evaluator and the links (R95 to R105). -/
theorem updateStages_evaluated {s : State} {a : Axis} {y : State × AxisChannel} (hy : updateStages s a = some y) :
    Evaluated s y.1 := by
  unfold updateStages at hy
  split at hy <;> cases hy
  case h_1 =>
    exact ((roleTarget_evaluated s a).trans (softClamp_evaluated _ a _)).trans (lagTest_evaluated _ a _ _)
  case h_2 => exact softClamp_evaluated s a _
  case h_3 => exact softClamp_evaluated s a _
  case h_4 => exact softClamp_evaluated s a _
  case h_5 => exact softClamp_evaluated s a _
  case h_6 => exact homingEnd_evaluated s a _ _ _ _

/-- The mode that the stages of an update end in belongs to the same hold state (R105, R120). -/
theorem updateStages_allowed {s : State} {a : Axis} {y : State × AxisChannel} {held : Bool}
    (hy : updateStages s a = some y) (allowed : ModeAllowed held (s.axis a).mode) : ModeAllowed held y.2.mode := by
  have own (x : Int) : ModeAllowed held (ownStages s a x).2.mode := by
    rw [ownStages_eq]
    exact allowed
  have stopping : ModeAllowed held (stoppingStages s a).2.mode := by
    rw [stoppingStages_eq]
    exact allowed
  unfold updateStages at hy
  split at hy <;> cases hy
  case h_1 =>
    rw [trackStages_eq]
    exact allowed
  case h_2 => exact restMode_allowed (own _)
  case h_3 => exact own _
  case h_4 => exact own _
  case h_5 => exact restMode_allowed stopping
  case h_6 mode =>
    rw [mode] at allowed
    exact allowed_after_homing allowed (homingEnd_inNormal s a _ _ _ _)

theorem updated_keeps_holdLaw {s : State} (h : HoldLaw s) (a : Axis) : HoldLaw (updated s a) := by
  have allowed := mode_allowed h a
  unfold updated
  cases hy : updateStages s a with
  | none => exact holdLaw_setAxis h allowed
  | some y =>
    have evaluated := updateStages_evaluated hy
    refine holdLaw_setAxis (evaluated.holdLaw h) ?_
    rw [evaluated.inHold]
    exact updateStages_allowed hy allowed

theorem exec_profileUpdate_keeps_holdLaw (a : Axis) : Keeps HoldLaw (exec (.profileUpdate a)) := by
  intro s t h ht
  rw [exec_profileUpdate] at ht
  cases ht
  exact observeAxis_keeps_holdLaw (updated_keeps_holdLaw h a) _ _ _

theorem execIndexEdge_keeps_holdLaw (a : Axis) : Keeps HoldLaw (execIndexEdge a) :=
  keeps_next fun _ h => holdLaw_setAxis h (indexEdge_allowed (mode_allowed h a))

/-! ### Requests to axes (R107 to R119, R141) -/

theorem execTrack_keeps_holdLaw (l : Link) (p : List Byte) : Keeps HoldLaw (execTrack l p) :=
  keeps_take holdLaw_ignoresLinks fun s h => by
    split
    · exact h
    · refine needGrant_keeps h (needNormal_keeps_of_normal h fun normal => ?_)
      split
      · exact h
      · refine holdLaw_changeSet h normal _ fun c _ => ?_
        rw [enterTrack_mode]
        trivial

theorem execMove_keeps_holdLaw (l : Link) (p : List Byte) : Keeps HoldLaw (execMove l p) :=
  keeps_take holdLaw_ignoresLinks fun s h => by
    split
    · exact h
    · refine needGrant_keeps h (needNormal_keeps_of_normal h fun normal => ?_)
      split
      · exact h
      · refine holdLaw_setAxis h ?_
        rw [normal]
        trivial

theorem execPark_keeps_holdLaw (l : Link) (p : List Byte) : Keeps HoldLaw (execPark l p) :=
  keeps_take holdLaw_ignoresLinks fun s h => by
    split
    · exact h
    · exact needGrant_keeps h (needNormal_keeps_of_normal h fun normal =>
        holdLaw_changeSet h normal _ fun _ => parkAxis_inNormal)

theorem execHome_keeps_holdLaw (l : Link) (p : List Byte) : Keeps HoldLaw (execHome l p) :=
  keeps_take holdLaw_ignoresLinks fun s h => by
    split
    · exact h
    · refine needGrant_keeps h (needNormal_keeps_of_normal h fun normal => ?_)
      split
      · exact h
      · exact holdLaw_changeSet h normal _ fun _ _ => trivial

theorem execSetAxisParam_keeps_holdLaw (l : Link) (p : List Byte) : Keeps HoldLaw (execSetAxisParam l p) :=
  keeps_take holdLaw_ignoresLinks fun s h => by
    split
    · exact h
    next a v _ =>
      refine needGrant_keeps h (needNormal_keeps h ?_)
      simp only
      split_ifs
      · exact h
      · exact h
      · refine holdLaw_setAxis h ?_
        rw [changeParam_eq]
        exact mode_allowed h a

theorem execClearFault_keeps_holdLaw (l : Link) (p : List Byte) (lines : Lines) : Keeps HoldLaw (execClearFault l p lines) :=
  keeps_take holdLaw_ignoresLinks fun s h => by
    split
    · exact h
    · refine needGrant_keeps h ?_
      split_ifs
      · exact h
      · exact h
      · exact holdLaw_setAxis h (parked_allowed _)

/-! ### Trips and end switches (R131 to R139) -/

section Trips

variable {s : State} (h : HoldLaw s)
include h

theorem reportFault_keeps_holdLaw (a : Axis) (kind : HoldFaultKind) : HoldLaw (reportFault s a kind) :=
  handCause_keeps_holdLaw (holdLaw_send h _) _

theorem switchActive_keeps_holdLaw (a : Axis) (side : Side) : HoldLaw (switchActive s a side) := by
  unfold switchActive
  split
  · exact reportFault_keeps_holdLaw (holdLaw_setAxis h (fault_allowed _ _)) a _
  · exact h

theorem setTripLine_keeps_holdLaw (a : Axis) (line : TripLine) : HoldLaw (s.setTripLine a line) :=
  holdLaw_setAxis h (mode_allowed h a)

theorem manualTrip_keeps_holdLaw (a : Axis) : HoldLaw (manualTrip s a) :=
  reportFault_keeps_holdLaw (holdLaw_setAxis h (fault_allowed _ _)) a _

/-- A counted trip that remembers a mode of the hold state (R134, R135). -/
theorem retryTrip_keeps_holdLaw (a : Axis) {prior : PriorMode} (allowed : PriorAllowed s.inHold prior) :
    HoldLaw (retryTrip s a prior) := by
  have counted : HoldLaw (s.setAxis a (countTrip (s.axis a))) := holdLaw_setAxis h (mode_allowed h a)
  unfold retryTrip
  simp only
  split
  · exact holdLaw_setAxis h (recovering_allowed_iff.mpr allowed)
  · exact manualTrip_keeps_holdLaw counted a

theorem tripped_keeps_holdLaw (a : Axis) : HoldLaw (tripped s a) := by
  have allowed := mode_allowed h a
  have disabled : HoldLaw (s.setAxis a (disableDrive (s.axis a))) := holdLaw_setAxis h allowed
  unfold tripped
  split
  next => exact h
  next prior left mode =>
    rw [mode, recovering_allowed_iff] at allowed
    exact retryTrip_keeps_holdLaw h a allowed
  next =>
    split
    · exact retryTrip_keeps_holdLaw disabled a (priorOf_allowed allowed)
    · exact manualTrip_keeps_holdLaw disabled a

theorem tripSeen_keeps_holdLaw (x : TripSeen) : HoldLaw (tripSeen s x) := by
  rcases tripSeen_cases s x with ⟨_, _, _, e⟩ | ⟨_, _, _, e⟩ | ⟨_, e⟩ <;> rw [e]
  · exact tripped_keeps_holdLaw (setTripLine_keeps_holdLaw h _ _) _
  · exact setTripLine_keeps_holdLaw h _ _
  · exact h

end Trips

theorem execRetryExpiry_keeps_holdLaw (a : Axis) (line : Bool) : Keeps HoldLaw (execRetryExpiry a line) := by
  intro s t h ht
  unfold execRetryExpiry at ht
  split at ht
  next prior mode =>
    have allowed := mode_allowed h a
    rw [mode, recovering_allowed_iff] at allowed
    have read := setTripLine_keeps_holdLaw h a (readTripLine (s.axis a) line)
    simp only at ht
    split at ht <;> cases ht
    · exact retryTrip_keeps_holdLaw read a allowed
    · exact holdLaw_setAxis read (modeOfPrior_allowed allowed)
  next =>
    cases ht
    exact h

theorem execTripWindowExpiry_keeps_holdLaw (a : Axis) : Keeps HoldLaw (execTripWindowExpiry a) := by
  intro s t h ht
  unfold execTripWindowExpiry at ht
  split at ht <;> cases ht
  · exact holdLaw_setAxis h (mode_allowed h a)
  · exact h

/-! ### Device reset (R91, R146) -/

theorem powerOn_holdLaw (s : State) : HoldLaw (powerOn s) := by
  intro a
  have start : (powerOn s).axis a = resetAxis ((startParams (resetStore s.store).record).axes.get a) := Table.get_build _ a
  rw [start]
  trivial

theorem execDeviceReset_keeps_holdLaw (trips : List Axis) (switches : List (Axis × Side)) :
    Keeps HoldLaw (execDeviceReset trips switches) := by
  have tripsTaken {s : State} (h : HoldLaw s) : HoldLaw (takeTripLines trips s) := by
    unfold takeTripLines
    induction trips generalizing s with
    | nil => exact h
    | cons a rest ih => exact ih (tripSeen_keeps_holdLaw h _)
  have switchesTaken {s : State} (h : HoldLaw s) : HoldLaw (takeSwitches switches s) := by
    unfold takeSwitches
    induction switches generalizing s with
    | nil => exact h
    | cons x rest ih => exact ih (switchActive_keeps_holdLaw h _ _)
  exact keeps_next fun s _ => switchesTaken (tripsTaken (powerOn_holdLaw s))

/-! ### Hold and resume (R153 to R160) -/

theorem execHold_keeps_holdLaw (l : Link) (p : List Byte) : Keeps HoldLaw (execHold l p) :=
  keeps_take holdLaw_ignoresLinks fun s h => by
    split
    · exact h
    · show HoldLaw (if s.inHold then s else enterHold s (.request l))
      split
      next => exact h
      next normal => exact enterHold_keeps_holdLaw h (by simpa using normal) _

/-- RESUME leaves HOLD with every axis in a mode of NORMAL, and its jump is tested there (R157, R158). -/
theorem resumeShow_keeps_holdLaw {s : State} (h : HoldLaw s) (held : s.inHold = true) (snap : Snapshot) :
    HoldLaw (resumeShow s snap) := by
  have restored (clock : Clock) (e : Event) :
      HoldLaw ((((s.setClock clock).setAxes
        (Table.build fun a => restoreAxis a (snap.saved.get a) (s.axis a))).setHold (.normal (some snap))).send e) := by
    intro a
    have before := mode_allowed h a
    rw [held] at before
    rw [State.send_axis, State.setHold_axis, State.setAxes_axis, Table.get_build]
    exact restoreAxis_inNormal _ before
  unfold resumeShow
  simp only
  split
  · exact restored _ _
  · exact observe_keeps_holdLaw_normal (restored _ _) rfl _ _

theorem execResume_keeps_holdLaw (l : Link) (p : List Byte) : Keeps HoldLaw (execResume l p) :=
  keeps_take holdLaw_ignoresLinks fun s h => by
    split
    · exact h
    split
    · exact h
    split
    · exact h
    next snap pendingCause hold =>
      split
      · exact h
      split
      next cause =>
        have taken : HoldLaw (s.setHold (.hold { snap with cause := cause } none)) := holdLaw_setHold h hold rfl none
        exact holdLaw_send taken _
      · exact resumeShow_keeps_holdLaw h (inHold_of_hold hold) _

theorem execSnapshotEdit_keeps_holdLaw (l : Link) (p : List Byte) : Keeps HoldLaw (execSnapshotEdit l p) :=
  keeps_take holdLaw_ignoresLinks fun s h => by
    split
    · exact h
    split
    · exact h
    split
    · exact h
    next snap pendingCause hold => exact holdLaw_setHold h hold rfl pendingCause

/-! ### Guards and the grant (R183 to R191, R197) -/

theorem guardExpire_keeps_holdLaw {s : State} (h : HoldLaw s) (l : Link) (action : GuardAction) :
    HoldLaw (guardExpire s l action) := by
  have released (c : Bool) :
      HoldLaw (if c then releaseGrant (s.send (.guardExpired l action)) .guard else s.send (.guardExpired l action)) := by
    split
    · exact releaseGrant_keeps_holdLaw (holdLaw_send h _) _
    · exact h
  have target (c : Bool) (u : State) (hu : HoldLaw u) : HoldLaw (if c then u.setClock u.clock.releaseTarget else u) := by
    split
    · exact holdLaw_setClock hu (clockStands_releaseTarget (clockStands_of_holdLaw hu))
    · exact hu
  have caused (u : State) (hu : HoldLaw u) : HoldLaw (if action = .hold then handCause u (.guard l) else u) := by
    split
    · exact handCause_keeps_holdLaw hu _
    · exact hu
  exact caused _ (target _ _ (released _))

theorem execGuardExpiry_keeps_holdLaw (l : Link) : Keeps HoldLaw (execGuardExpiry l) := by
  intro s t h ht
  unfold execGuardExpiry at ht
  split at ht <;> cases ht
  · exact guardExpire_keeps_holdLaw (holdLaw_setLink h _ _) _ _
  · exact h

theorem execGrantRequest_keeps_holdLaw (l : Link) (p : List Byte) : Keeps HoldLaw (execGrantRequest l p) :=
  keeps_take holdLaw_ignoresLinks fun s h => by
    split
    · exact h
    split
    · exact h
    · split_ifs <;> exact h

theorem execGrantRelease_keeps_holdLaw (l : Link) (p : List Byte) : Keeps HoldLaw (execGrantRelease l p) :=
  keeps_take holdLaw_ignoresLinks fun s h => by
    split
    · exact h
    split
    · exact releaseGrant_keeps_holdLaw h _
    · exact h

theorem execGrantSeize_keeps_holdLaw (l : Link) (p : List Byte) : Keeps HoldLaw (execGrantSeize l p) :=
  keeps_take holdLaw_ignoresLinks fun s h => by
    split
    · exact h
    split_ifs <;> exact h

theorem execLinkReset_keeps_holdLaw (l : Link) (p : List Byte) : Keeps HoldLaw (execLinkReset l p) :=
  keeps_take holdLaw_ignoresLinks fun s h => by
    split
    · exact h
    · have left : HoldLaw (leaveQueue (s.setLink l (s.link l).resetRequest) l) := h
      simp only [answer]
      split
      · exact releaseGrant_keeps_holdLaw left _
      · exact left

/-! ### Every command -/

theorem passMillisecond_keeps_holdLaw {s : State} (h : HoldLaw s) : HoldLaw (passMillisecond s) := by
  have stands := clockStands_of_holdLaw h
  refine (holdLaw_iff _).mpr ⟨stands, fun a => ?_⟩
  rw [passMillisecond_axis]
  exact elapse_allowed (mode_allowed h a)

/-- Every command but a clock step keeps the hold law by itself. -/
theorem exec_keeps_holdLaw (i : Instr) (timeless : i ≠ .clockStep) : Keeps HoldLaw (exec i) := by
  have links := holdLaw_ignoresLinks
  have patches := holdLaw_ignoresPatches
  have store := holdLaw_ignoresStore
  have watches := holdLaw_ignoresWatches
  cases i with
  | deviceReset trips switches => exact execDeviceReset_keeps_holdLaw trips switches
  | clockStep => exact absurd rfl timeless
  | profileUpdate a => exact exec_profileUpdate_keeps_holdLaw a
  | indexEdge a => exact execIndexEdge_keeps_holdLaw a
  | qualifiedTrip x => exact keeps_next fun _ h => tripSeen_keeps_holdLaw h x
  | endSwitch a side => exact keeps_next fun _ h => switchActive_keeps_holdLaw h a side
  | retryExpiry a line => exact execRetryExpiry_keeps_holdLaw a line
  | tripWindowExpiry a => exact execTripWindowExpiry_keeps_holdLaw a
  | thermalSample celsius => exact exec_thermalSample_keeps_holdLaw celsius
  | writeCompletion result => exact execWriteCompletion_keeps links store result
  | eraseCompletion result => exact execEraseCompletion_keeps links store result
  | checkSectorCovered => exact execCheckSectorCovered_keeps links store
  | saveErasePhaseEnd result => exact execSaveErasePhaseEnd_keeps links store result
  | saveWritePhaseEnd result => exact execSaveWritePhaseEnd_keeps links store result
  | frameArrival l k p => exact execFrameArrival_keeps links l k p
  | transmitStart l => exact execTransmitStart_keeps links l
  | reportEvent l => exact execReportEvent_keeps links l
  | guardExpiry l => exact execGuardExpiry_keeps_holdLaw l
  | nonRequestKind l k p => exact execNonRequestKind_keeps links l k p
  | setRate l p => exact execSetRate_keeps_holdLaw l p
  | setTime l p => exact execSetTime_keeps_holdLaw l p
  | nudge l p => exact execNudge_keeps_holdLaw l p
  | setSite l p => exact execSetSite_keeps_holdLaw l p
  | coupleOff l p => exact execCoupleOff_keeps_holdLaw l p
  | coupleOn l p => exact execCoupleOn_keeps_holdLaw l p
  | readTrack l p => exact execReadTrack_keeps links l p
  | patchSet l p => exact execPatchSet_keeps links patches l p
  | patchEnable l p => exact execPatchEnable_keeps links patches l p
  | patchDisable l p => exact execPatchDisable_keeps links patches l p
  | patchRead l p => exact execPatchRead_keeps links l p
  | segmentWrite l p => exact execSegmentWrite_keeps links store l p
  | sectorErase l p => exact execSectorErase_keeps links store l p
  | eraseSuspend l p => exact execEraseSuspend_keeps links store l p
  | eraseResume l p => exact execEraseResume_keeps links store l p
  | sectorCheck l p => exact execSectorCheck_keeps links store l p
  | saveParameters l p => exact execSaveParameters_keeps links store l p
  | readSegment l p => exact execReadSegment_keeps links l p
  | protect l p => exact execProtect_keeps links store l p
  | track l p => exact execTrack_keeps_holdLaw l p
  | move l p => exact execMove_keeps_holdLaw l p
  | park l p => exact execPark_keeps_holdLaw l p
  | setAxisParam l p => exact execSetAxisParam_keeps_holdLaw l p
  | readAxis l p => exact execReadAxis_keeps links l p
  | home l p => exact execHome_keeps_holdLaw l p
  | clearFault l p lines => exact execClearFault_keeps_holdLaw l p lines
  | setThermalLimit l p => exact execSetThermalLimit_keeps_holdLaw l p
  | hold l p => exact execHold_keeps_holdLaw l p
  | resume l p => exact execResume_keeps_holdLaw l p
  | snapshotRead l p => exact execSnapshotRead_keeps links l p
  | snapshotEdit l p => exact execSnapshotEdit_keeps_holdLaw l p
  | watchSet l p => exact execWatchSet_keeps links watches l p
  | watchEnable l p => exact execWatchEnable_keeps links watches l p
  | watchDisable l p => exact execWatchDisable_keeps links watches l p
  | watchClear l p => exact execWatchClear_keeps links watches l p
  | watchStatus l p => exact execWatchStatus_keeps links l p
  | watchAcknowledge l p => exact execWatchAcknowledge_keeps links watches l p
  | grantRequest l p => exact execGrantRequest_keeps_holdLaw l p
  | grantRelease l p => exact execGrantRelease_keeps_holdLaw l p
  | grantSeize l p => exact execGrantSeize_keeps_holdLaw l p
  | guardArm l p => exact execGuardArm_keeps links l p
  | reportInterval l p => exact execReportInterval_keeps links l p
  | readStatus l p => exact execReadStatus_keeps links l p
  | linkReset l p => exact execLinkReset_keeps_holdLaw l p
  | characterReceived l char fault => exact execCharacterReceived_keeps links l char fault

/-- The clock law and the hold law together are kept by every command. -/
theorem exec_keeps_clockAndHoldLaw (i : Instr) : Keeps (fun s => ClockLaw s ∧ HoldLaw s) (exec i) := by
  rintro s t ⟨range, h⟩ ht
  refine ⟨exec_keeps_clockLaw i s t range ht, ?_⟩
  by_cases step : i = .clockStep
  · subst step
    exact exec_clockStep_keeps_holdLaw range h ht
  · exact exec_keeps_holdLaw i step s t h ht

/-- Settles O55: every command keeps the two laws together, and a passing millisecond moves neither sky time nor an axis. -/
theorem holdLawKept : Obligations.HoldLawKept := by
  unfold Obligations.HoldLawKept
  intro s t range h ht
  exact (keeps_step (P := fun s => ClockLaw s ∧ HoldLaw s) (fun _ _ hu => hu)
    (fun _ hu => ⟨hu.1, passMillisecond_keeps_holdLaw hu.2⟩) exec_keeps_clockAndHoldLaw s t ⟨range, h⟩ ht).2

end Sys2Proof.Proofs
end


section
/-! PROOFS. The hold controller's requests in the terms of the statements: HOLD, RESUME refused, taken up and carried out,
and SNAPSHOT EDIT (R143, R148 to R160). -/

namespace Sys2Proof.Proofs

open Machine Safety

/-! ### HOLD (R148 to R150, R153) -/

/-- HOLD in a state (R153). -/
def holdTaken (l : Link) (s : State) : State := if s.inHold then s else enterHold s (.request l)

theorem exec_hold {s : State} {l : Link} (ready : Ready s l 0x30 []) :
    exec (.hold l []) s = .next (replied (holdTaken l (s.dropFrame l)) l 0x30 .ok .none) := by
  show execHold l [] s = _
  unfold execHold
  exact take_replied (h := answer (holdTaken l (s.dropFrame l)) .ok) ready rfl

/-- The rate is to be restored where sky time ran or was about to (R148). -/
theorem takeSnapshot_restoreRate (s : State) (cause : HoldCause) :
    (takeSnapshot s cause).restoreRate = true ↔ s.clock.r ≠ 0 ∨ s.clock.rt ≠ 0 := by
  simp [takeSnapshot]

/-- Hold entry saves and treats an axis by its row of the table (R149). -/
theorem holdTreat_row (c : AxisChannel) : EntryRow c (holdSave c) (holdTreat c) := by
  unfold EntryRow holdSave holdTreat
  cases c.mode with
  | held => trivial
  | recovering prior left => cases prior <;> exact ⟨rfl, rfl⟩
  | parked | track | move | homing | stopping | fault => exact ⟨rfl, rfl⟩

/-- Settles O37: HOLD by the hold state, with the snapshot and the axes of hold entry. -/
theorem holdEntersOnce : Obligations.HoldEntersOnce := by
  intro s l ready q
  have taken := exec_hold ready
  refine ⟨fun held => ?_, fun normal _ => ⟨takeSnapshot q (.request l), Table.map holdTreat q.axes, ?_, rfl, rfl, rfl, rfl,
    takeSnapshot_restoreRate q _, rfl, fun a => ?_⟩⟩
  · rw [taken, holdTaken, State.dropFrame_inHold, held]
    rfl
  · rw [taken, holdTaken, State.dropFrame_inHold, normal]
    rfl
  · rw [takeSnapshot, Table.get_map, Table.get_map]
    exact holdTreat_row (s.axis a)

/-! ### RESUME refused, and the pending cause taken up (R143, R154, R155) -/

theorem holderOrConsole_iff {s : State} {l : Link} :
    holderOrConsole s l = true ↔ s.grant.holder = some l ∨ l = .c := by
  simp [holderOrConsole]

theorem holderOrConsole_other {s : State} {l : Link} (other : s.grant.holder ≠ some l) (remote : l ≠ .c) :
    holderOrConsole s l = false := by
  simp [holderOrConsole, other, remote]

/-- Too hot to resume (R143). -/
theorem tooHot_iff {th : Thermal} : tooHot th = true ↔ ∃ x, th.latest = some x ∧ th.tw + 10 ≤ x := by
  unfold tooHot
  cases th.latest <;> simp

/-- RESUME in a state (R154 to R158). -/
def resumeTaken (l : Link) (s : State) : Handled :=
  if !holderOrConsole s l then answer s .notGranted
  else
    match s.holdCtl with
    | .normal _ => answer s .noOperation
    | .hold snap pendingCause =>
      if tooHot s.thermal then answer s .thermal
      else
        match pendingCause with
        | some cause =>
          answer ((s.setHold (.hold { snap with cause := cause } none)).send (.holdEntered cause snap.entryT)) .held
        | none => answer (resumeShow s snap) .ok

theorem exec_resumeTaken {s : State} {l : Link} {h : Handled} (ready : Ready s l 0x31 [])
    (handled : resumeTaken l (s.dropFrame l) = h) :
    exec (.resume l []) s = .next (replied h.state l 0x31 h.status h.data) :=
  take_replied (k := kResume) ready handled

section Resume

variable {s : State} {l : Link}

theorem resumeTaken_notGranted (other : s.grant.holder ≠ some l) (remote : l ≠ .c) :
    resumeTaken l s = answer s .notGranted := by
  rw [resumeTaken, holderOrConsole_other other remote]
  rfl

variable (may : s.grant.holder = some l ∨ l = .c)
include may

theorem resumeTaken_noOperation (normal : s.inHold = false) : resumeTaken l s = answer s .noOperation := by
  obtain ⟨snap, control⟩ := inHold_eq_false_iff.mp normal
  rw [resumeTaken, holderOrConsole_iff.mpr may, control]
  rfl

theorem resumeTaken_thermal (held : s.inHold = true) (hot : tooHot s.thermal = true) :
    resumeTaken l s = answer s .thermal := by
  obtain ⟨snap, p, control⟩ := inHold_eq_true_iff.mp held
  rw [resumeTaken, holderOrConsole_iff.mpr may, control, hot]
  rfl

theorem resumeTaken_pending {snap : Snapshot} {cause : HoldCause} (control : s.holdCtl = .hold snap (some cause))
    (cool : tooHot s.thermal = false) :
    resumeTaken l s =
      answer ((s.setHold (.hold { snap with cause := cause } none)).send (.holdEntered cause snap.entryT)) .held := by
  rw [resumeTaken, holderOrConsole_iff.mpr may, control, cool]
  rfl

end Resume

/-! ### SNAPSHOT EDIT (R160) -/

/-- SNAPSHOT EDIT with a flag and a resume time (R160). -/
def editTaken (l : Link) (flag : Bool) (time : Int) (s : State) : Handled :=
  if !holderOrConsole s l then answer s .notGranted
  else
    match s.holdCtl with
    | .normal _ => answer s .noOperation
    | .hold snap pendingCause =>
      answer (s.setHold (.hold { snap with restoreRate := flag, resumeTime := clampSky time } pendingCause))
        (clampedIf (decide (clampSky time ≠ time)))

theorem exec_snapshotEdit {s : State} {l : Link} {flag : Bool} {time : Int} {h : Handled} (low : -2 ^ 63 ≤ time)
    (high : time < 2 ^ 63) (ready : Ready s l 0x33 (boolCode flag :: beBytes 8 time))
    (handled : editTaken l flag time (s.dropFrame l) = h) :
    exec (.snapshotEdit l (boolCode flag :: beBytes 8 time)) s = .next (replied h.state l 0x33 h.status h.data) := by
  show execSnapshotEdit l _ s = _
  unfold execSnapshotEdit
  refine take_replied ready ?_
  rw [readSnapshotEdit_beBytes flag low high]
  exact handled

/-- A time is CLAMPED where it lies beyond the range of sky time. -/
theorem clampSky_status (time : Int) :
    clampedIf (decide (clampSky time ≠ time)) = if time < skyMin ∨ skyMax < time then .clamped else .ok := by
  have limits : skyMin < skyMax := by decide
  rw [clampedIf_ne, clampSky_eq]
  split_ifs with stands beyond beyond
  · omega
  · rfl
  · rfl
  · omega

section Edit

variable {s : State} {l : Link} (flag : Bool) (time : Int)

theorem editTaken_notGranted (other : s.grant.holder ≠ some l) (remote : l ≠ .c) :
    editTaken l flag time s = answer s .notGranted := by
  rw [editTaken, holderOrConsole_other other remote]
  rfl

variable (may : s.grant.holder = some l ∨ l = .c)
include may

theorem editTaken_noOperation (normal : s.inHold = false) : editTaken l flag time s = answer s .noOperation := by
  obtain ⟨snap, control⟩ := inHold_eq_false_iff.mp normal
  rw [editTaken, holderOrConsole_iff.mpr may, control]
  rfl

theorem editTaken_held {snap : Snapshot} {pending : Option HoldCause} (control : s.holdCtl = .hold snap pending) :
    editTaken l flag time s =
      answer
        (s.setHold (.hold { snap with restoreRate := flag, resumeTime := max skyMin (min time skyMax) } pending))
        (if time < skyMin ∨ skyMax < time then .clamped else .ok) := by
  rw [editTaken, holderOrConsole_iff.mpr may, control, ← clampSky_status, ← clampSky_eq]
  rfl

end Edit

/-- Settles O38: RESUME by its checks in their order and the pending cause, SNAPSHOT EDIT by its own. -/
theorem resumeChecksAndPendingCause : Obligations.ResumeChecksAndPendingCause := by
  intro s l q hot
  have hot_iff : tooHot q.thermal = true ↔ hot := tooHot_iff
  refine ⟨fun ready => ⟨fun other remote => ?_, fun may => ⟨fun normal => ?_, fun held warm => ?_,
    fun snap cause control cool => ?_⟩⟩, fun flag time low high ready => ⟨fun other remote => ?_, fun may =>
    ⟨fun normal => ?_, fun snap pending control => ?_⟩⟩⟩
  · exact exec_resumeTaken ready (resumeTaken_notGranted (s := q) other remote)
  · exact exec_resumeTaken ready (resumeTaken_noOperation (s := q) may normal)
  · exact exec_resumeTaken ready (resumeTaken_thermal (s := q) may held (hot_iff.mpr warm))
  · exact exec_resumeTaken ready
      (resumeTaken_pending (s := q) may control (Bool.eq_false_iff.mpr (mt hot_iff.mp cool)))
  · exact exec_snapshotEdit low high ready (editTaken_notGranted (s := q) flag time other remote)
  · exact exec_snapshotEdit low high ready (editTaken_noOperation (s := q) flag time may normal)
  · exact exec_snapshotEdit low high ready (editTaken_held (s := q) flag time may control)

/-! ### RESUME carried out (R16, R156 to R158) -/

/-- Without a jump that an entry tests, RESUME is the clock, the axes, NORMAL and RESUMED (R156 to R158). -/
theorem resumeShow_untested {s : State} {snap : Snapshot} (untested : snap.resumeTime = snap.entryT ∨ NoInsideOnSky s) :
    resumeShow s snap =
      let clock := resumeClock s.clock snap
      (((s.setClock clock).setAxes (Table.build fun a => restoreAxis a (snap.saved.get a) (s.axis a))).setHold
        (.normal (some snap))).send (.resumed clock.t clock.rt) := by
  unfold resumeShow
  simp only
  split
  next => rfl
  next jumps =>
    have free : NoInsideOnSky s := untested.resolve_left jumps
    exact skyJump_noInside _ _ free

/-- Settles O39: the show restored without the watch unit, each axis by its row of the table. -/
theorem resumeRestoresTheShow : Obligations.ResumeRestoresTheShow := by
  intro s l snap ready may control cool untested q t1 rt1
  refine ⟨Table.build fun a => restoreAxis a (snap.saved.get a) (s.axis a), ?_, fun a => ?_⟩
  · have clock : resumeClock q.clock snap = { t := t1, r := s.clock.r, rt := rt1 } := by
      unfold resumeClock
      rw [clampSky_eq]
      rfl
    rw [exec_resume may control cool ready, resumeShow_untested (s := q) untested, clock]
    rfl
  · rw [Table.get_build]
    exact restoreAxis_row a _ _

end Sys2Proof.Proofs
end

section
/-! PROOFS. The grant-bound requests: each reader takes the payloads of its form and no others, and the checks of form, grant
and hold refuse in that order (R151, R182, R200, R201). -/

namespace Sys2Proof.Proofs

open Machine Safety

/-! ### Payloads of a fixed length, of one number and of one set (R200, R201) -/

theorem ofLength_some_form {α : Type} (n : Nat) (p : List Byte) (x : α) : ofLength n p (some x) ≠ none ↔ p.length = n := by
  unfold ofLength
  split <;> simp_all

theorem readNo_form {bound : Nat} {b : List Byte} : readNo bound b ≠ none ↔ beNat b < bound := by
  unfold readNo
  split <;> simp_all

/-- A payload of one byte that is a number up to its last. -/
theorem readByte_form (last : Nat) (p : List Byte) :
    ofLength 1 p (readNo (last + 1) p) ≠ none ↔ ∃ b : Byte, b.toNat ≤ last ∧ p = [b] := by
  constructor
  · intro read
    by_cases len : p.length = 1
    · obtain ⟨b, rfl⟩ := List.length_eq_one_iff.mp len
      rw [ofLength_eq len, readNo_form, beNat_singleton, Nat.lt_succ_iff] at read
      exact ⟨b, read, rfl⟩
    · exact absurd (ofLength_ne len) read
  · rintro ⟨b, listed, rfl⟩
    rwa [ofLength_eq (n := 1) (p := [b]) rfl, readNo_form, beNat_singleton, Nat.lt_succ_iff]

/-- A payload cut at its three fields. -/
theorem field_cut_three {p : List Byte} {i j k : Nat} (len : p.length = i + j + k) :
    field p 0 i ++ field p i j ++ field p (i + j) k = p := by
  have first : field p 0 i ++ field p i j = field p 0 (i + j) := by
    unfold field
    rw [List.drop_zero, List.take_add]
  rw [first, field_cut len]

/-- The argument of COUPLE (R25). -/
theorem readCouple_form (p : List Byte) : ofLength 1 p (readOnOff p) ≠ none ↔ p = [0] ∨ p = [1] := by
  constructor
  · intro read
    by_cases len : p.length = 1
    · obtain ⟨b, rfl⟩ := List.length_eq_one_iff.mp len
      rw [ofLength_eq len] at read
      by_contra other
      obtain ⟨off, on⟩ := not_or.mp other
      exact read (readOnOff_none (by simpa using off) (by simpa using on))
    · exact absurd (ofLength_ne len) read
  · rintro (rfl | rfl) <;> decide

/-! ### MOVE (R110) -/

/-- A payload of six bytes, cut behind its first and before its last. -/
theorem cut_ends {p : List Byte} (len : p.length = 6) :
    ∃ (a : Byte) (v : List Byte) (b : Byte), v.length = 4 ∧ p = a :: (v ++ [b]) := by
  match p, len with
  | [a, v1, v2, v3, v4, b], _ => exact ⟨a, [v1, v2, v3, v4], b, rfl, rfl⟩

theorem readMoveDirection_form (b : Byte) : readMoveDirection [b] ≠ none ↔ b.toNat ≤ 2 := by
  constructor
  · intro read
    by_contra above
    exact read (readMoveDirection_none (by omega))
  · intro listed
    rw [readMoveDirection, beNat_singleton]
    interval_cases b.toNat <;> nofun

theorem readMove_form (p : List Byte) :
    readMove p ≠ none ↔
      ∃ (a dir : Byte) (v : List Byte), a.toNat ≤ 16 ∧ v.length = 4 ∧ dir.toNat ≤ 2 ∧ p = a :: (v ++ [dir]) := by
  constructor
  · intro read
    by_cases len : p.length = 6
    · obtain ⟨a, v, dir, size, rfl⟩ := cut_ends len
      have axis : readNo 17 [a] ≠ none := fun refused => read (readMove_none (.inl refused))
      have direction : readMoveDirection [dir] ≠ none := fun refused => read (readMove_none (.inr (by
        rw [field_tail, field_last dir size, refused])))
      rw [readNo_form, beNat_singleton] at axis
      exact ⟨a, dir, v, by omega, size, (readMoveDirection_form dir).mp direction, rfl⟩
    · exact absurd (ofLength_ne len) read
  · rintro ⟨a, dir, v, axis, size, listed, rfl⟩
    obtain ⟨x, d, read⟩ := readMove_some (Fin.ofNat 17 a.toNat) size listed
    have byte : beBytes 1 ((Fin.ofNat 17 a.toNat).val : Int) = [a] :=
      beBytes_readNo rfl (by simp [readNo, beNat_singleton, Fin.ofNat]; omega)
    rw [byte] at read
    exact read ▸ Option.some_ne_none _

/-! ### SET AXIS PARAM (R92, R113) -/

/-- A parameter is read where it exists for the axis with the value it carries. -/
theorem readParamValue_form (a : Axis) {code : Nat} {x : Int} (carried : ParamCarried code x) :
    readParamValue (bounded a) code (beBytes 4 x) ≠ none ↔ ParamExists a code x := by
  have natural := beNat_carried carried
  unfold ParamExists
  match code with
  | 0 | 1 | 2 | 3 | 5 | 9 => simp [readParamValue]
  | 6 | 7 | 8 => cases kind : bounded a <;> simp [readParamValue]
  | 4 | 11 =>
    simp only [readParamValue, natural (by decide), Nat.cast_zero, Nat.cast_one]
    split_ifs <;> simp_all
  | 10 =>
    simp only [readParamValue, natural (by decide), Nat.cast_zero, Nat.cast_ofNat]
    split_ifs <;> simp_all
  | _ + 12 => simp [readParamValue]

/-- The value of four bytes as the code reads it: signed or unsigned, and carried back by the same bytes (R200). -/
theorem exists_carried (code : Nat) {bytes : List Byte} (len : bytes.length = 4) :
    ∃ x, ParamCarried code x ∧ beBytes 4 x = bytes := by
  by_cases signed : code ∈ [5, 6, 7]
  · have range := beSigned_range len
    refine ⟨beSigned bytes, ?_, beBytes_beSigned len⟩
    rw [ParamCarried, if_pos signed]
    norm_num at range ⊢
    omega
  · have range := beUnsigned_range len
    refine ⟨beUnsigned bytes, ?_, beBytes_beUnsigned len⟩
    rw [ParamCarried, if_neg signed]
    norm_num at range ⊢
    exact range

theorem readAxisParam_form (p : List Byte) :
    readAxisParam p ≠ none ↔
      ∃ (a : Axis) (code : Nat) (x : Int), code < 256 ∧ ParamCarried code x ∧ ParamExists a code x ∧
        p = beBytes 1 a.val ++ beBytes 1 code ++ beBytes 4 x := by
  constructor
  · intro read
    by_cases len : p.length = 6
    · cases axis : readNo 17 (field p 0 1) with
      | none => exact absurd (readAxisParam_none axis) read
      | some a =>
        have small := beNat_lt (field p 1 1)
        rw [field_length (by omega)] at small
        obtain ⟨x, carried, bytes⟩ := exists_carried (beNat (field p 1 1)) (bytes := field p 2 4) (field_length (by omega))
        have value : readParamValue (bounded a) (beNat (field p 1 1)) (beBytes 4 x) ≠ none := by
          intro refused
          rw [bytes] at refused
          rw [readAxisParam, axis] at read
          simp only [refused, Option.map_none, ofLength_none] at read
          exact read rfl
        refine ⟨a, beNat (field p 1 1), x, small, carried, (readParamValue_form a carried).mp value, ?_⟩
        rw [beBytes_readNo (field_length (by omega)) axis, bytes]
        have code : beBytes 1 (beNat (field p 1 1) : Int) = field p 1 1 := beBytes_beUnsigned (field_length (by omega))
        rw [code, field_cut_three (i := 1) (j := 1) (k := 4) len]
    · exact absurd (ofLength_ne len) read
  · rintro ⟨a, code, x, small, carried, listed, rfl⟩
    rw [readAxisParam_beBytes a x small, Ne, Option.map_eq_none_iff]
    exact (readParamValue_form a carried).mpr listed

/-! ### PATCH SET (R35, R59) -/

theorem readPatchSet_form (p : List Byte) :
    readPatchSet p ≠ none ↔
      ∃ (n : PatchNo) (slot : SlotNo) (g : Segment), SegmentFits g ∧
        p = beBytes 1 n.val ++ beBytes 2 slot.val ++ segmentBytes g := by
  constructor
  · intro read
    by_cases len : p.length = 29
    · cases entry : readNo 8 (field p 0 1) with
      | none => exact absurd (readPatchSet_none (.inl entry)) read
      | some n =>
        cases index : readNo 2016 (field p 1 2) with
        | none => exact absurd (readPatchSet_none (.inr (.inl index))) read
        | some slot =>
          cases record : readSegmentRecord (field p 3 26) with
          | none => exact absurd (readPatchSet_none (.inr (.inr record))) read
          | some g =>
            obtain ⟨fits, bytes⟩ := readSegmentRecord_some (field_length (by omega)) record
            refine ⟨n, slot, g, fits, ?_⟩
            rw [beBytes_readNo (field_length (by omega)) entry, beBytes_readNo (field_length (by omega)) index, bytes,
              field_cut_three (i := 1) (j := 2) (k := 26) len]
    · exact absurd (ofLength_ne len) read
  · rintro ⟨n, slot, g, fits, rfl⟩
    rw [readPatchSet_beBytes n slot fits]
    exact Option.some_ne_none _

/-! ### The checks in their order (R151, R182) -/

/-- The refusals of a grant-bound request, each alone in what it changes: by its form, by the grant and, where it moves the
clock or an axis, by hold (R151, R182, R200). -/
def RefusesInOrder (k : Byte) (p : List Byte) (l : Link) (meaning : State → Result) : Prop :=
  ∀ s, Ready s l k p →
    let refused (status : Status) : Prop := meaning s = .next (replied (s.dropFrame l) l k status .none)
    (¬ FormPasses k p → refused .malformed) ∧
    (FormPasses k p → s.grant.holder ≠ some l → refused .notGranted) ∧
    (FormPasses k p → k ∈ heldKinds → s.grant.holder = some l → s.inHold = true → refused .held)

/-- A handling that reads the payload, then needs the grant and, where it moves something, NORMAL. -/
theorem refusesInOrder_of_read {α : Type} {read : Option α} {k : Byte} {p : List Byte} {l : Link} {handle : State → Handled}
    (form : read ≠ none ↔ FormPasses k p) (malformed : read = none → ∀ s, handle s = answer s .malformed)
    (bound : ∀ x, read = some x → ∀ s, ∃ h, handle s = needGrant s l h ∧ (k ∈ heldKinds → ∃ h', h = needNormal s h')) :
    RefusesInOrder k p l (take l ⟨k, p⟩ handle) := by
  intro s ready refused
  refine ⟨fun fails => take_answered ready (malformed (not_not.mp (mt form.mp fails)) _), fun passed other => ?_,
    fun passed moves granted held => ?_⟩
  · obtain ⟨x, taken⟩ := Option.ne_none_iff_exists'.mp (form.mpr passed)
    obtain ⟨h, handled, _⟩ := bound x taken (s.dropFrame l)
    exact take_answered ready (handled.trans (needGrant_other other))
  · obtain ⟨x, taken⟩ := Option.ne_none_iff_exists'.mp (form.mpr passed)
    obtain ⟨h, handled, motion⟩ := bound x taken (s.dropFrame l)
    obtain ⟨h', rfl⟩ := motion moves
    exact take_answered ready (handled.trans
      ((needGrant_holder (s := s.dropFrame l) granted).trans (needNormal_hold (s := s.dropFrame l) held)))

section Kinds

variable (l : Link) (p : List Byte)

/-! The clock and motion requests, which need the grant and then NORMAL (R7, R107, R119). -/

theorem execSetRate_refuses : RefusesInOrder 0x01 p l (execSetRate l p) :=
  refusesInOrder_of_read (read := readSigned8 p) ((ofLength_some_form 8 p _).trans (by simp [FormPasses])) (fun form _ => by rw [form])
    fun x form s => by rw [form]; exact ⟨_, rfl, fun _ => ⟨_, rfl⟩⟩

theorem execSetTime_refuses : RefusesInOrder 0x02 p l (execSetTime l p) :=
  refusesInOrder_of_read (read := readSigned8 p) ((ofLength_some_form 8 p _).trans (by simp [FormPasses])) (fun form _ => by rw [form])
    fun x form s => by rw [form]; exact ⟨_, rfl, fun _ => ⟨_, rfl⟩⟩

theorem execNudge_refuses : RefusesInOrder 0x03 p l (execNudge l p) :=
  refusesInOrder_of_read (read := readSigned8 p) ((ofLength_some_form 8 p _).trans (by simp [FormPasses])) (fun form _ => by rw [form])
    fun x form s => by rw [form]; exact ⟨_, rfl, fun _ => ⟨_, rfl⟩⟩

theorem execTrack_refuses : RefusesInOrder 0x20 p l (execTrack l p) :=
  refusesInOrder_of_read (read := readAxisSet p) ((readAxisSet_form p).trans (by simp [FormPasses])) (fun form _ => by rw [form])
    fun x form s => by rw [form]; exact ⟨_, rfl, fun _ => ⟨_, rfl⟩⟩

theorem execMove_refuses : RefusesInOrder 0x21 p l (execMove l p) :=
  refusesInOrder_of_read (read := readMove p) ((readMove_form p).trans (by simp [FormPasses])) (fun form _ => by rw [form])
    fun x form s => by rw [form]; exact ⟨_, rfl, fun _ => ⟨_, rfl⟩⟩

theorem execPark_refuses : RefusesInOrder 0x22 p l (execPark l p) :=
  refusesInOrder_of_read (read := readAxisSet p) ((readAxisSet_form p).trans (by simp [FormPasses])) (fun form _ => by rw [form])
    fun x form s => by rw [form]; exact ⟨_, rfl, fun _ => ⟨_, rfl⟩⟩

theorem execSetAxisParam_refuses : RefusesInOrder 0x23 p l (execSetAxisParam l p) :=
  refusesInOrder_of_read (read := readAxisParam p) ((readAxisParam_form p).trans (by simp [FormPasses])) (fun form _ => by rw [form])
    fun x form s => by rw [form]; exact ⟨_, rfl, fun _ => ⟨_, rfl⟩⟩

theorem execHome_refuses : RefusesInOrder 0x25 p l (execHome l p) :=
  refusesInOrder_of_read (read := readAxisSet p) ((readAxisSet_form p).trans (by simp [FormPasses])) (fun form _ => by rw [form])
    fun x form s => by rw [form]; exact ⟨_, rfl, fun _ => ⟨_, rfl⟩⟩

/-! The other grant-bound requests, which are taken in hold too (R25, R59, R83, R141, R144). -/

theorem execSetSite_refuses : RefusesInOrder 0x04 p l (execSetSite l p) :=
  refusesInOrder_of_read (read := readSite p) ((ofLength_some_form 8 p _).trans (by simp [FormPasses])) (fun form _ => by rw [form])
    fun x form s => by rw [form]; exact ⟨_, rfl, fun moves => absurd moves (by decide)⟩

theorem execPatchSet_refuses : RefusesInOrder 0x07 p l (execPatchSet l p) :=
  refusesInOrder_of_read (read := readPatchSet p) ((readPatchSet_form p).trans (by simp [FormPasses])) (fun form _ => by rw [form])
    fun x form s => by rw [form]; exact ⟨_, rfl, fun moves => absurd moves (by decide)⟩

theorem execPatchEnable_refuses : RefusesInOrder 0x08 p l (execPatchEnable l p) :=
  refusesInOrder_of_read (read := readPatchNo p) ((readByte_form 7 p).trans (by simp [FormPasses])) (fun form _ => by rw [form])
    fun x form s => by rw [form]; exact ⟨_, rfl, fun moves => absurd moves (by decide)⟩

theorem execPatchDisable_refuses : RefusesInOrder 0x09 p l (execPatchDisable l p) :=
  refusesInOrder_of_read (read := readPatchNo p) ((readByte_form 7 p).trans (by simp [FormPasses])) (fun form _ => by rw [form])
    fun x form s => by rw [form]; exact ⟨_, rfl, fun moves => absurd moves (by decide)⟩

theorem execSaveParameters_refuses : RefusesInOrder 0x15 p l (execSaveParameters l p) :=
  refusesInOrder_of_read (read := readEmpty p) ((ofLength_some_form 0 p _).trans (by simp [FormPasses])) (fun form _ => by rw [form])
    fun x form s => by rw [form]; exact ⟨_, rfl, fun moves => absurd moves (by decide)⟩

theorem execClearFault_refuses (lines : Lines) : RefusesInOrder 0x26 p l (execClearFault l p lines) :=
  refusesInOrder_of_read (read := readAxisNo p) ((readByte_form 16 p).trans (by simp [FormPasses])) (fun form _ => by rw [form])
    fun x form s => by rw [form]; exact ⟨_, rfl, fun moves => absurd moves (by decide)⟩

theorem execSetThermalLimit_refuses : RefusesInOrder 0x27 p l (execSetThermalLimit l p) :=
  refusesInOrder_of_read (read := readTw p) ((ofLength_some_form 1 p _).trans (by simp [FormPasses])) (fun form _ => by rw [form])
    fun x form s => by rw [form]; exact ⟨_, rfl, fun moves => absurd moves (by decide)⟩

theorem takeCouple_refuses : RefusesInOrder 0x05 p l (take l ⟨0x05, p⟩ (handleCouple l p)) :=
  refusesInOrder_of_read ((readCouple_form p).trans (by simp [FormPasses])) handleCouple_malformed
    fun x form s => by unfold handleCouple; rw [form]; exact ⟨_, rfl, fun moves => absurd moves (by decide)⟩

/-- COUPLE is one request, whichever of its two rows its argument names (R25; log 14). -/
theorem exec_couple (lines : Lines) : exec (requestOf l lines 0x05 p) = take l ⟨0x05, p⟩ (handleCouple l p) := by
  funext s
  by_cases on : p = [1]
  · subst on
    rfl
  · have row : requestOf l lines 0x05 p = .coupleOff l p := if_neg on
    rw [row]
    exact if_neg on

end Kinds

theorem exec_grantBound_refuses {k : Byte} (kind : k ∈ grantBoundKinds) (l : Link) (lines : Lines) (p : List Byte) :
    RefusesInOrder k p l (exec (requestOf l lines k p)) := by
  simp only [grantBoundKinds, List.mem_cons, List.not_mem_nil, or_false] at kind
  rcases kind with rfl | rfl | rfl | rfl | rfl | rfl | rfl | rfl | rfl | rfl | rfl | rfl | rfl | rfl | rfl | rfl
  · exact execSetRate_refuses l p
  · exact execSetTime_refuses l p
  · exact execNudge_refuses l p
  · exact execSetSite_refuses l p
  · rw [exec_couple]
    exact takeCouple_refuses l p
  · exact execTrack_refuses l p
  · exact execMove_refuses l p
  · exact execPark_refuses l p
  · exact execHome_refuses l p
  · exact execSetAxisParam_refuses l p
  · exact execSaveParameters_refuses l p
  · exact execClearFault_refuses l p lines
  · exact execSetThermalLimit_refuses l p
  · exact execPatchSet_refuses l p
  · exact execPatchEnable_refuses l p
  · exact execPatchDisable_refuses l p

/-- Settles O6, kind by kind: each reads its form, then checks the grant, and the clock and motion requests check hold. -/
theorem refusalsChangeNothing : Obligations.RefusalsChangeNothing := by
  intro s l lines k p kind ready refused
  exact exec_grantBound_refuses kind l lines p s ready

end Sys2Proof.Proofs
end

section
/-! PROOFS. The grant law in its two parts, the waiters and the LOCAL entries, and what the shared operations make of it
(R174, R176, R183 to R187). The law reads the arbiter and the entries' definitions alone. -/

namespace Sys2Proof.Proofs

open Machine Safety

/-! ### The law in two parts (R183, R176) -/

/-- No waiter stands in the queue twice or holds the grant, and none waits for a free one (R183). -/
def WaitersApart (x : Arbiter) : Prop :=
  x.queue.Nodup ∧ (∀ l, x.holder = some l → l ∉ x.queue) ∧ (x.holder = none → x.queue = [])

/-- No LOCAL entry is enabled (R176). -/
def LocalsOff (watches : Vector Watch 4) : Prop :=
  ∀ (i : WatchNo) w, (watches.get i).definition = some w → w.scope = .local_ → w.enabled = false

/-- There are three links. -/
theorem links_length_le {ls : List Link} (once : ls.Nodup) : ls.length ≤ 3 := by
  have among : ls ⊆ [.s, .c, .d] := fun l _ => by cases l <;> decide
  exact (once.subperm among).length_le

/-- The holder and two waiters are all the links there are. -/
theorem WaitersApart.length_le {x : Arbiter} (apart : WaitersApart x) : x.queue.length ≤ 2 := by
  obtain ⟨once, out, free⟩ := apart
  cases holder : x.holder with
  | none => simp [free holder]
  | some l =>
    have all := links_length_le (List.nodup_cons.mpr ⟨out l holder, once⟩)
    rw [List.length_cons] at all
    omega

theorem grantLaw_iff (s : State) :
    GrantLaw s ↔ WaitersApart s.grant ∧ (s.grant.holder = none → LocalsOff s.watches) := by
  constructor
  · rintro ⟨_, once, out, free⟩
    exact ⟨⟨once, out, fun none => (free none).1⟩, fun none => (free none).2⟩
  · rintro ⟨apart, off⟩
    exact ⟨apart.length_le, apart.1, apart.2.1, fun none => ⟨apart.2.2 none, off none⟩⟩

theorem waitersApart_of_grantLaw {s : State} (h : GrantLaw s) : WaitersApart s.grant := ((grantLaw_iff s).mp h).1

theorem grantLaw_ignoresLinks : IgnoresLinks GrantLaw := fun _ _ h => h

theorem grantLaw_ignoresClock : Ignores GrantLaw State.setClock := fun _ _ h => h

theorem grantLaw_ignoresBall : Ignores GrantLaw State.setBall := fun _ _ h => h

theorem grantLaw_ignoresPatches : Ignores GrantLaw State.setPatches := fun _ _ h => h

theorem grantLaw_ignoresAxes : Ignores GrantLaw State.setAxes := fun _ _ h => h

theorem grantLaw_ignoresStore : Ignores GrantLaw State.setStore := fun _ _ h => h

theorem grantLaw_ignoresThermal : Ignores GrantLaw State.setThermal := fun _ _ h => h

theorem grantLaw_setAxis {s : State} (h : GrantLaw s) (a : Axis) (c : AxisChannel) : GrantLaw (s.setAxis a c) := h

theorem grantLaw_send {s : State} (h : GrantLaw s) (e : Event) : GrantLaw (s.send e) := h

theorem grantLaw_setLink {s : State} (h : GrantLaw s) (l : Link) (x : LinkState) : GrantLaw (s.setLink l x) := h

/-- The law carries over to a state with the same arbiter and the same entries. -/
theorem grantLaw_of_same {s t : State} (h : GrantLaw s) (grant : t.grant = s.grant) (watches : t.watches = s.watches) :
    GrantLaw t := by
  rw [grantLaw_iff, grant, watches]
  exact (grantLaw_iff s).mp h

/-! ### The waiters (R184 to R186) -/

/-- A link that takes the grant leaves the queue (R184, R186). -/
theorem waitersApart_take {x : Arbiter} (apart : WaitersApart x) (l : Link) :
    WaitersApart { holder := some l, queue := x.queue.erase l } := by
  refine ⟨apart.1.erase l, ?_, nofun⟩
  rintro _ ⟨⟩
  exact apart.1.not_mem_erase

/-- The oldest waiter takes the grant (R185). -/
theorem waitersApart_pass {x : Arbiter} (apart : WaitersApart x) {q : Link} {rest : List Link}
    (waiting : x.queue = q :: rest) : WaitersApart { holder := some q, queue := rest } := by
  have once := apart.1
  rw [waiting, List.nodup_cons] at once
  refine ⟨once.2, ?_, nofun⟩
  rintro _ ⟨⟩
  exact once.1

theorem waitersApart_free : WaitersApart { holder := none, queue := [] } := ⟨.nil, nofun, fun _ => rfl⟩

/-- A link that does not hold the grant and does not wait for it goes to the end of the queue (R184). -/
theorem waitersApart_wait {x : Arbiter} (apart : WaitersApart x) {l h : Link} (held : x.holder = some h) (other : h ≠ l)
    (new : l ∉ x.queue) : WaitersApart { x with queue := x.queue ++ [l] } := by
  obtain ⟨once, out, _⟩ := apart
  refine ⟨once.append (List.nodup_singleton l) (List.disjoint_singleton.mpr new), fun m holds => ?_, fun free => ?_⟩
  · obtain rfl : h = m := Option.some.inj (held.symm.trans holds)
    simp [out h held, other]
  · exact absurd (held.symm.trans free) nofun

/-- A waiter leaves the queue (R185, R191, R197). -/
theorem waitersApart_leave {x : Arbiter} (apart : WaitersApart x) (l : Link) :
    WaitersApart { x with queue := x.queue.erase l } := by
  obtain ⟨once, out, free⟩ := apart
  refine ⟨once.erase l, fun m holds waits => out m holds (List.mem_of_mem_erase waits), fun none => ?_⟩
  rw [free none]
  rfl

/-! ### The entries (R170, R173 to R176) -/

@[simp] theorem watchMark_definition (subject : WatchSubject) (ch : Change) (someFired : Bool) (x : Watch) :
    (x.mark subject ch someFired).definition = x.definition := by
  unfold Watch.mark
  split_ifs <;> rfl

theorem localsOff_mark {watches : Vector Watch 4} (off : LocalsOff watches) (subject : WatchSubject) (ch : Change)
    (someFired : Bool) : LocalsOff (Table.map (Watch.mark subject ch someFired) watches) := by
  intro i w hw
  rw [Table.get_map, watchMark_definition] at hw
  exact off i w hw

/-- A grant change disables every LOCAL entry (R176). -/
theorem localsOff_disableLocal (watches : Vector Watch 4) : LocalsOff (Table.map Watch.disableLocal watches) := by
  intro i w hw scope
  rw [Table.get_map] at hw
  unfold Watch.disableLocal at hw
  split at hw
  next _ _ =>
    split_ifs at hw with isLocal
    · cases hw
      rfl
    · rename_i here
      rw [here] at hw
      cases hw
      exact absurd scope isLocal
  next here =>
    rw [here] at hw
    cases hw

theorem grantLaw_setWatches {s : State} (h : GrantLaw s) {watches : Vector Watch 4}
    (off : s.grant.holder = none → LocalsOff s.watches → LocalsOff watches) : GrantLaw (s.setWatches watches) := by
  obtain ⟨apart, before⟩ := (grantLaw_iff s).mp h
  exact (grantLaw_iff _).mpr ⟨apart, fun free => off free (before free)⟩

/-- An entry may be replaced by any that is not an enabled LOCAL one while the grant is free. -/
theorem grantLaw_setWatch {s : State} (h : GrantLaw s) {n : WatchNo} {x : Watch}
    (off : s.grant.holder = none → ∀ w, x.definition = some w → w.scope = .local_ → w.enabled = false) :
    GrantLaw (s.setWatch n x) := by
  refine grantLaw_setWatches h fun free before i w hw => ?_
  rw [Table.get_set] at hw
  split at hw
  · exact off free w hw
  · exact before i w hw

/-! ### Grant changes, hold causes and the watch unit (R147 to R152, R165 to R172, R185, R187) -/

theorem grantChange_grantLaw (s : State) {holder : Option Link} {queue : List Link}
    (apart : WaitersApart { holder := holder, queue := queue }) (reason : GrantReason) :
    GrantLaw (grantChange s holder queue reason) :=
  (grantLaw_iff _).mpr ⟨apart, fun _ => localsOff_disableLocal s.watches⟩

section Shared

variable {s : State} (h : GrantLaw s)
include h

theorem releaseGrant_keeps_grantLaw (reason : GrantReason) : GrantLaw (releaseGrant s reason) := by
  rcases releaseGrant_cases s reason with ⟨_, e⟩ | ⟨q, rest, waiting, e⟩ <;> rw [e]
  · exact grantChange_grantLaw s waitersApart_free reason
  · exact grantChange_grantLaw s (waitersApart_pass (waitersApart_of_grantLaw h) waiting) reason

theorem leaveQueue_keeps_grantLaw (l : Link) : GrantLaw (leaveQueue s l) := by
  obtain ⟨apart, off⟩ := (grantLaw_iff s).mp h
  exact (grantLaw_iff _).mpr ⟨waitersApart_leave apart l, off⟩

theorem handCause_keeps_grantLaw (cause : HoldCause) : GrantLaw (handCause s cause) :=
  grantLaw_of_same h (handCause_grant s cause) (handCause_watches s cause)

/-- The watch unit marks entries and leaves their definitions (R170). -/
theorem observe_keeps_grantLaw (subject : WatchSubject) (ch : Change) : GrantLaw (observe s subject ch) := by
  refine grantLaw_of_same (s := s.setWatches (observe s subject ch).watches) (grantLaw_setWatches h fun _ off => ?_)
    (observe_grant s subject ch) rfl
  rw [observe_watches]
  exact localsOff_mark off subject ch _

end Shared

end Sys2Proof.Proofs
end

section
/-! PROOFS. The grant law is kept by every step (R174, R176, R183). The commands that change the grant keep the waiters
apart; WATCH ENABLE alone enables entries; the others leave what the law reads, or let the watch unit mark entries. -/

namespace Sys2Proof.Proofs

open Machine Safety

/-! ### The sky clock (R3 to R11) -/

theorem execClockStep_keeps_grantLaw : Keeps GrantLaw execClockStep := by
  have told {s : State} (h : GrantLaw s) (side : Option Side) : GrantLaw (sendSkyLimit s side) := by
    cases side <;> exact h
  exact keeps_next fun s h => observe_keeps_grantLaw (told (grantLaw_ignoresClock s _ h) _) _ _

theorem execSetRate_keeps_grantLaw (l : Link) (p : List Byte) : Keeps GrantLaw (execSetRate l p) :=
  keeps_take grantLaw_ignoresLinks fun s h => by
    split
    · exact h
    · exact needGrant_keeps h (needNormal_keeps h h)

theorem jumpTo_keeps_grantLaw {s : State} (h : GrantLaw s) (t : Int) : GrantLaw (jumpTo s t).state :=
  observe_keeps_grantLaw (grantLaw_ignoresClock s _ h) _ _

theorem execSetTime_keeps_grantLaw (l : Link) (p : List Byte) : Keeps GrantLaw (execSetTime l p) :=
  keeps_take grantLaw_ignoresLinks fun s h => by
    split
    · exact h
    · exact needGrant_keeps h (needNormal_keeps h (jumpTo_keeps_grantLaw h _))

theorem execNudge_keeps_grantLaw (l : Link) (p : List Byte) : Keeps GrantLaw (execNudge l p) :=
  keeps_take grantLaw_ignoresLinks fun s h => by
    split
    · exact h
    · exact needGrant_keeps h (needNormal_keeps h (jumpTo_keeps_grantLaw h _))

/-! ### Star ball geometry and the thermal monitor (R25 to R29, R142 to R144) -/

theorem execSetSite_keeps_grantLaw (l : Link) (p : List Byte) : Keeps GrantLaw (execSetSite l p) :=
  keeps_take grantLaw_ignoresLinks fun s h => by
    split
    · exact h
    · exact needGrant_keeps h h

theorem execCoupleOff_keeps_grantLaw (l : Link) (p : List Byte) : Keeps GrantLaw (execCoupleOff l p) := by
  intro s t h ht
  unfold execCoupleOff at ht
  split at ht
  · cases ht
    exact h
  · exact keeps_take grantLaw_ignoresLinks (fun _ hu => handleCouple_keeps grantLaw_ignoresBall hu l p) s t h ht

theorem execCoupleOn_keeps_grantLaw (l : Link) (p : List Byte) : Keeps GrantLaw (execCoupleOn l p) := by
  intro s t h ht
  unfold execCoupleOn at ht
  split at ht
  · cases ht
    exact h
  · exact keeps_take grantLaw_ignoresLinks (fun _ hu => handleCouple_keeps grantLaw_ignoresBall hu l p) s t h ht

theorem execSetThermalLimit_keeps_grantLaw (l : Link) (p : List Byte) : Keeps GrantLaw (execSetThermalLimit l p) :=
  keeps_take grantLaw_ignoresLinks fun s h => by
    split
    · exact h
    · exact needGrant_keeps h h

theorem execThermalSample_keeps_grantLaw (celsius : Int) : Keeps GrantLaw (execThermalSample celsius) := by
  have warned {s : State} (h : GrantLaw s) (old new : Bool) : GrantLaw (sendWarning s old new celsius) := by
    unfold sendWarning
    split <;> exact h
  intro s t h ht
  unfold execThermalSample at ht
  simp only at ht
  split at ht <;> cases ht
  · exact handCause_keeps_grantLaw (grantLaw_send (warned (grantLaw_ignoresThermal s _ h) _ _) _) _
  · exact warned (grantLaw_ignoresThermal s _ h) _ _

/-! ### The profile update (R95 to R105) -/

theorem Evaluated.grantLaw {s t : State} (evaluated : Evaluated s t) (h : GrantLaw s) : GrantLaw t := by
  obtain ⟨_, _, rfl⟩ := evaluated
  exact h

theorem updated_keeps_grantLaw {s : State} (h : GrantLaw s) (a : Axis) : GrantLaw (updated s a) := by
  unfold updated
  cases hy : updateStages s a with
  | none => exact h
  | some y => exact (updateStages_evaluated hy).grantLaw h

theorem exec_profileUpdate_keeps_grantLaw (a : Axis) : Keeps GrantLaw (exec (.profileUpdate a)) := by
  intro s t h ht
  rw [exec_profileUpdate] at ht
  cases ht
  exact observe_keeps_grantLaw (updated_keeps_grantLaw h a) _ _

/-! ### Trips and end switches (R131 to R139) -/

section Trips

variable {s : State} (h : GrantLaw s)
include h

theorem reportFault_keeps_grantLaw (a : Axis) (kind : HoldFaultKind) : GrantLaw (reportFault s a kind) :=
  handCause_keeps_grantLaw (grantLaw_send h _) _

theorem switchActive_keeps_grantLaw (a : Axis) (side : Side) : GrantLaw (switchActive s a side) := by
  unfold switchActive
  split
  · exact reportFault_keeps_grantLaw (grantLaw_setAxis h a _) a _
  · exact h

theorem manualTrip_keeps_grantLaw (a : Axis) : GrantLaw (manualTrip s a) :=
  reportFault_keeps_grantLaw (grantLaw_setAxis h a _) a _

theorem retryTrip_keeps_grantLaw (a : Axis) (prior : PriorMode) : GrantLaw (retryTrip s a prior) := by
  unfold retryTrip
  simp only
  split
  · exact h
  · exact manualTrip_keeps_grantLaw (grantLaw_setAxis h a _) a

theorem tripped_keeps_grantLaw (a : Axis) : GrantLaw (tripped s a) := by
  unfold tripped
  split
  · exact h
  · exact retryTrip_keeps_grantLaw h a _
  · split
    · exact retryTrip_keeps_grantLaw (grantLaw_setAxis h a _) a _
    · exact manualTrip_keeps_grantLaw (grantLaw_setAxis h a _) a

theorem tripSeen_keeps_grantLaw (x : TripSeen) : GrantLaw (tripSeen s x) := by
  rcases tripSeen_cases s x with ⟨_, _, _, e⟩ | ⟨_, _, _, e⟩ | ⟨_, e⟩ <;> rw [e]
  · exact tripped_keeps_grantLaw (grantLaw_setAxis h _ _) _
  · exact h
  · exact h

end Trips

theorem execRetryExpiry_keeps_grantLaw (a : Axis) (line : Bool) : Keeps GrantLaw (execRetryExpiry a line) := by
  intro s t h ht
  unfold execRetryExpiry at ht
  split at ht
  · simp only at ht
    split at ht <;> cases ht
    · exact retryTrip_keeps_grantLaw (grantLaw_setAxis h a _) a _
    · exact h
  · cases ht
    exact h

/-! ### Device reset (R164, R183) -/

theorem powerOn_grantLaw (s : State) : GrantLaw (powerOn s) := grantLaw_of_same reset_grantLaw rfl rfl

theorem execDeviceReset_keeps_grantLaw (trips : List Axis) (switches : List (Axis × Side)) :
    Keeps GrantLaw (execDeviceReset trips switches) := by
  have tripsTaken {s : State} (h : GrantLaw s) : GrantLaw (takeTripLines trips s) := by
    unfold takeTripLines
    induction trips generalizing s with
    | nil => exact h
    | cons a rest ih => exact ih (tripSeen_keeps_grantLaw h _)
  have switchesTaken {s : State} (h : GrantLaw s) : GrantLaw (takeSwitches switches s) := by
    unfold takeSwitches
    induction switches generalizing s with
    | nil => exact h
    | cons x rest ih => exact ih (switchActive_keeps_grantLaw h _ _)
  exact keeps_next fun s _ => switchesTaken (tripsTaken (powerOn_grantLaw s))

/-! ### Hold and resume (R153 to R160) -/

theorem execHold_keeps_grantLaw (l : Link) (p : List Byte) : Keeps GrantLaw (execHold l p) :=
  keeps_take grantLaw_ignoresLinks fun s h => by
    split
    · exact h
    · show GrantLaw (if s.inHold then s else enterHold s (.request l))
      split <;> exact h

theorem resumeShow_keeps_grantLaw {s : State} (h : GrantLaw s) (snap : Snapshot) : GrantLaw (resumeShow s snap) := by
  have resumed (clock : Clock) (axes : Vector AxisChannel 17) (x : HoldCtl) (e : Event) :
      GrantLaw ((((s.setClock clock).setAxes axes).setHold x).send e) := h
  unfold resumeShow
  simp only
  split
  · exact resumed _ _ _ _
  · exact observe_keeps_grantLaw (resumed _ _ _ _) _ _

theorem execResume_keeps_grantLaw (l : Link) (p : List Byte) : Keeps GrantLaw (execResume l p) :=
  keeps_take grantLaw_ignoresLinks fun s h => by
    split
    · exact h
    split
    · exact h
    split
    · exact h
    · split
      · exact h
      split
      · exact h
      · exact resumeShow_keeps_grantLaw h _

theorem execSnapshotEdit_keeps_grantLaw (l : Link) (p : List Byte) : Keeps GrantLaw (execSnapshotEdit l p) :=
  keeps_take grantLaw_ignoresLinks fun s h => by
    split
    · exact h
    split
    · exact h
    split <;> exact h

/-! ### The watch unit's requests (R173 to R175) -/

/-- The entry that WATCH SET defines is not enabled (R173). -/
theorem execWatchSet_keeps_grantLaw (l : Link) (p : List Byte) : Keeps GrantLaw (execWatchSet l p) :=
  keeps_take grantLaw_ignoresLinks fun s h => by
    split
    · exact h
    split_ifs
    · exact h
    · exact h
    · exact grantLaw_setWatch h (by rintro - _ ⟨⟩ -; rfl)

/-- A LOCAL entry is enabled for the holder of the grant alone, and then it is not free (R174). -/
theorem execWatchEnable_keeps_grantLaw (l : Link) (p : List Byte) : Keeps GrantLaw (execWatchEnable l p) :=
  keeps_take grantLaw_ignoresLinks fun s h => by
    split
    · exact h
    simp only
    split
    · exact h
    split
    · exact h
    split
    next => exact h
    next granted =>
      refine grantLaw_setWatch h ?_
      rintro free _ ⟨⟩ isLocal
      exact absurd ⟨isLocal, by simp [free]⟩ granted

theorem execWatchDisable_keeps_grantLaw (l : Link) (p : List Byte) : Keeps GrantLaw (execWatchDisable l p) :=
  keeps_take grantLaw_ignoresLinks fun s h => by
    split
    · exact h
    simp only
    split
    · exact h
    split
    · exact h
    · exact grantLaw_setWatch h (by rintro - _ ⟨⟩ -; rfl)

theorem execWatchClear_keeps_grantLaw (l : Link) (p : List Byte) : Keeps GrantLaw (execWatchClear l p) :=
  keeps_take grantLaw_ignoresLinks fun s h => by
    split
    · exact h
    simp only
    split
    · exact h
    split
    · exact h
    · exact grantLaw_setWatch h nofun

theorem execWatchAcknowledge_keeps_grantLaw (l : Link) (p : List Byte) : Keeps GrantLaw (execWatchAcknowledge l p) :=
  keeps_take grantLaw_ignoresLinks fun s h => by
    split
    · exact h
    · refine grantLaw_setWatches h fun _ off i w hw => ?_
      rw [Table.get_build] at hw
      exact off i w hw

/-! ### Guards and the grant (R183 to R191, R197) -/

theorem guardExpire_keeps_grantLaw {s : State} (h : GrantLaw s) (l : Link) (action : GuardAction) :
    GrantLaw (guardExpire s l action) := by
  have released (c : Bool) :
      GrantLaw (if c then releaseGrant (s.send (.guardExpired l action)) .guard else s.send (.guardExpired l action)) := by
    split
    · exact releaseGrant_keeps_grantLaw (grantLaw_send h _) _
    · exact h
  have target (c : Bool) (u : State) (hu : GrantLaw u) : GrantLaw (if c then u.setClock u.clock.releaseTarget else u) := by
    split <;> exact hu
  have caused (u : State) (hu : GrantLaw u) : GrantLaw (if action = .hold then handCause u (.guard l) else u) := by
    split
    · exact handCause_keeps_grantLaw hu _
    · exact hu
  exact leaveQueue_keeps_grantLaw (caused _ (target _ _ (released _))) l

theorem execGuardExpiry_keeps_grantLaw (l : Link) : Keeps GrantLaw (execGuardExpiry l) := by
  intro s t h ht
  unfold execGuardExpiry at ht
  split at ht <;> cases ht
  · exact guardExpire_keeps_grantLaw (grantLaw_setLink h l _) l _
  · exact h

theorem execGrantRequest_keeps_grantLaw (l : Link) (p : List Byte) : Keeps GrantLaw (execGrantRequest l p) :=
  keeps_take grantLaw_ignoresLinks fun s h => by
    obtain ⟨apart, _⟩ := (grantLaw_iff s).mp h
    split
    · exact h
    split
    · exact grantChange_grantLaw s (waitersApart_take apart l) _
    next holder held =>
      split_ifs with own waits
      · exact h
      · exact h
      · refine (grantLaw_iff _).mpr ⟨waitersApart_wait apart held own waits, fun free => ?_⟩
        exact absurd (held.symm.trans free) nofun

theorem execGrantRelease_keeps_grantLaw (l : Link) (p : List Byte) : Keeps GrantLaw (execGrantRelease l p) :=
  keeps_take grantLaw_ignoresLinks fun s h => by
    split
    · exact h
    split
    · exact releaseGrant_keeps_grantLaw h _
    · exact leaveQueue_keeps_grantLaw h l

theorem execGrantSeize_keeps_grantLaw (l : Link) (p : List Byte) : Keeps GrantLaw (execGrantSeize l p) :=
  keeps_take grantLaw_ignoresLinks fun s h => by
    split
    · exact h
    split_ifs
    · exact h
    · exact h
    · exact grantChange_grantLaw s (waitersApart_take (waitersApart_of_grantLaw h) .c) _

theorem execLinkReset_keeps_grantLaw (l : Link) (p : List Byte) : Keeps GrantLaw (execLinkReset l p) :=
  keeps_take grantLaw_ignoresLinks fun s h => by
    split
    · exact h
    · have left : GrantLaw (leaveQueue (s.setLink l (s.link l).resetRequest) l) :=
        leaveQueue_keeps_grantLaw (grantLaw_setLink h l _) l
      simp only [answer]
      split
      · exact releaseGrant_keeps_grantLaw left _
      · exact left

/-! ### Every command -/

theorem exec_keeps_grantLaw (i : Instr) : Keeps GrantLaw (exec i) := by
  have links := grantLaw_ignoresLinks
  have patches := grantLaw_ignoresPatches
  have axes := grantLaw_ignoresAxes
  have store := grantLaw_ignoresStore
  cases i with
  | deviceReset trips switches => exact execDeviceReset_keeps_grantLaw trips switches
  | clockStep => exact execClockStep_keeps_grantLaw
  | profileUpdate a => exact exec_profileUpdate_keeps_grantLaw a
  | indexEdge a => exact execIndexEdge_keeps axes a
  | qualifiedTrip x => exact keeps_next fun _ h => tripSeen_keeps_grantLaw h x
  | endSwitch a side => exact keeps_next fun _ h => switchActive_keeps_grantLaw h a side
  | retryExpiry a line => exact execRetryExpiry_keeps_grantLaw a line
  | tripWindowExpiry a => exact execTripWindowExpiry_keeps axes a
  | thermalSample celsius => exact execThermalSample_keeps_grantLaw celsius
  | writeCompletion result => exact execWriteCompletion_keeps links store result
  | eraseCompletion result => exact execEraseCompletion_keeps links store result
  | checkSectorCovered => exact execCheckSectorCovered_keeps links store
  | saveErasePhaseEnd result => exact execSaveErasePhaseEnd_keeps links store result
  | saveWritePhaseEnd result => exact execSaveWritePhaseEnd_keeps links store result
  | frameArrival l k p => exact execFrameArrival_keeps links l k p
  | transmitStart l => exact execTransmitStart_keeps links l
  | reportEvent l => exact execReportEvent_keeps links l
  | guardExpiry l => exact execGuardExpiry_keeps_grantLaw l
  | nonRequestKind l k p => exact execNonRequestKind_keeps links l k p
  | setRate l p => exact execSetRate_keeps_grantLaw l p
  | setTime l p => exact execSetTime_keeps_grantLaw l p
  | nudge l p => exact execNudge_keeps_grantLaw l p
  | setSite l p => exact execSetSite_keeps_grantLaw l p
  | coupleOff l p => exact execCoupleOff_keeps_grantLaw l p
  | coupleOn l p => exact execCoupleOn_keeps_grantLaw l p
  | readTrack l p => exact execReadTrack_keeps links l p
  | patchSet l p => exact execPatchSet_keeps links patches l p
  | patchEnable l p => exact execPatchEnable_keeps links patches l p
  | patchDisable l p => exact execPatchDisable_keeps links patches l p
  | patchRead l p => exact execPatchRead_keeps links l p
  | segmentWrite l p => exact execSegmentWrite_keeps links store l p
  | sectorErase l p => exact execSectorErase_keeps links store l p
  | eraseSuspend l p => exact execEraseSuspend_keeps links store l p
  | eraseResume l p => exact execEraseResume_keeps links store l p
  | sectorCheck l p => exact execSectorCheck_keeps links store l p
  | saveParameters l p => exact execSaveParameters_keeps links store l p
  | readSegment l p => exact execReadSegment_keeps links l p
  | protect l p => exact execProtect_keeps links store l p
  | track l p => exact execTrack_keeps links axes l p
  | move l p => exact execMove_keeps links axes l p
  | park l p => exact execPark_keeps links axes l p
  | setAxisParam l p => exact execSetAxisParam_keeps links axes l p
  | readAxis l p => exact execReadAxis_keeps links l p
  | home l p => exact execHome_keeps links axes l p
  | clearFault l p lines => exact execClearFault_keeps links axes l p lines
  | setThermalLimit l p => exact execSetThermalLimit_keeps_grantLaw l p
  | hold l p => exact execHold_keeps_grantLaw l p
  | resume l p => exact execResume_keeps_grantLaw l p
  | snapshotRead l p => exact execSnapshotRead_keeps links l p
  | snapshotEdit l p => exact execSnapshotEdit_keeps_grantLaw l p
  | watchSet l p => exact execWatchSet_keeps_grantLaw l p
  | watchEnable l p => exact execWatchEnable_keeps_grantLaw l p
  | watchDisable l p => exact execWatchDisable_keeps_grantLaw l p
  | watchClear l p => exact execWatchClear_keeps_grantLaw l p
  | watchStatus l p => exact execWatchStatus_keeps links l p
  | watchAcknowledge l p => exact execWatchAcknowledge_keeps_grantLaw l p
  | grantRequest l p => exact execGrantRequest_keeps_grantLaw l p
  | grantRelease l p => exact execGrantRelease_keeps_grantLaw l p
  | grantSeize l p => exact execGrantSeize_keeps_grantLaw l p
  | guardArm l p => exact execGuardArm_keeps links l p
  | reportInterval l p => exact execReportInterval_keeps links l p
  | readStatus l p => exact execReadStatus_keeps links l p
  | linkReset l p => exact execLinkReset_keeps_grantLaw l p
  | characterReceived l char fault => exact execCharacterReceived_keeps links l char fault

/-- Settles O56: every command keeps the grant law, and a passing millisecond changes neither the arbiter nor an entry. -/
theorem grantLawKept : Obligations.GrantLawKept := by
  unfold Obligations.GrantLawKept
  intro s t h ht
  exact keeps_step (fun _ _ hu => hu) (fun _ hu => hu) exec_keeps_grantLaw s t h ht

end Sys2Proof.Proofs
end

section
/-! PROOFS. WATCH SET: the fields that its reader refuses, the checks in their order, and the entry that it defines (R173,
R200). -/

namespace Sys2Proof.Proofs

open Machine Safety

/-! ### The form check (R173, R200) -/

theorem readScope_none {b : Byte} (above : 1 < b.toNat) : readScope [b] = none := by
  rw [readScope, beNat_singleton]
  split
  case h_3 => rfl
  all_goals omega

theorem readSubject_none {b : Byte} (above : 16 < b.toNat) (timeless : b.toNat ≠ 255) : readSubject [b] = none := by
  rw [readSubject, beNat_singleton, if_neg timeless, readNo_byte_none above, Option.map_none]

theorem readCondition_none {b : Byte} (above : 3 < b.toNat) : readCondition [b] = none := by
  rw [readCondition, beNat_singleton]
  split
  case h_5 => rfl
  all_goals omega

theorem readSubject_sky {b : Byte} (code : b.toNat = 255) : readSubject [b] = some .skyTime := by
  rw [readSubject, beNat_singleton, if_pos code]

theorem readCondition_inside {b : Byte} (code : b.toNat = 3) : readCondition [b] = some .inside := by
  simp [readCondition, beNat_singleton, code]

theorem readAction_pause {b : Byte} (code : b.toNat = 1) : readAction [b] = some .pause := by
  simp [readAction, beNat_singleton, code]

/-- One field in the middle that its reader refuses refuses the payload. -/
theorem readWatchSet_none_of_middle {p : List Byte} (refused : readScope (field p 1 1) = none ∨
    readSubject (field p 2 1) = none ∨ readCondition (field p 3 1) = none) : readWatchSet p = none := by
  rw [readWatchSet]
  split
  next scope subject condition _ => simp [scope, subject, condition] at refused
  next => exact ofLength_none _ _

/-- SKY TIME, INSIDE and PAUSE together are refused (R173). -/
theorem readWatchSet_none_of_skyInsidePause {p : List Byte} (sky : readSubject (field p 2 1) = some .skyTime)
    (inside : readCondition (field p 3 1) = some .inside) (pause : readAction (field p 16 1) = some .pause) :
    readWatchSet p = none := by
  rw [readWatchSet, sky, inside, pause]
  split
  next subject condition action =>
    cases subject
    cases condition
    cases action
    exact ofLength_none _ _
  next => exact ofLength_none _ _

/-- Every malformed WATCH SET that R173 and R200 list. -/
theorem readWatchSet_malformed {entry scope subject condition action : Byte} {r : List Byte} (len : r.length = 12)
    (malformed : 3 < entry.toNat ∨ 1 < scope.toNat ∨ (16 < subject.toNat ∧ subject.toNat ≠ 255) ∨ 3 < condition.toNat ∨
      2 < action.toNat ∨ (subject.toNat = 255 ∧ condition.toNat = 3 ∧ action.toNat = 1)) :
    readWatchSet (entry :: scope :: subject :: condition :: (r ++ [action])) = none := by
  have last : field (entry :: scope :: subject :: condition :: (r ++ [action])) 16 1 = [action] := field_last action len
  rcases malformed with above | above | ⟨above, timeless⟩ | above | above | ⟨sky, inside, pause⟩
  · exact readWatchSet_none (.inl (readNo_byte_none above))
  · exact readWatchSet_none_of_middle (.inl (readScope_none above))
  · exact readWatchSet_none_of_middle (.inr (.inl (readSubject_none above timeless)))
  · exact readWatchSet_none_of_middle (.inr (.inr (readCondition_none above)))
  · exact readWatchSet_none (.inr (by rw [last, readAction_none above]))
  · exact readWatchSet_none_of_skyInsidePause (readSubject_sky sky) (readCondition_inside inside)
      (by rw [last, readAction_pause pause])

/-! ### The entry as taken (R173) -/

theorem ownedByOther_iff {x : Watch} {l : Link} :
    ownedByOther x l = true ↔ ∃ w, x.definition = some w ∧ w.owner ≠ l ∧ l ≠ .c := by
  unfold ownedByOther
  cases x.definition <;> simp

/-- The fields of the entry that WATCH SET defines. -/
def entryFrom (l : Link) (x : WatchRequest) : WatchDef where
  owner := l
  scope := x.scope
  enabled := false
  subject := x.subject
  condition := x.condition
  reference := takeReference x.subject x.reference
  width := takeWidth x.width
  action := x.action

theorem takeReference_axis (a : Axis) (x : Int) : takeReference (.axis a) x = if bounded a then x else x % 2 ^ 32 := rfl

theorem takeWidth_eq (x : Int) : takeWidth x = max 1 (min x (2 ^ 31)) := clamp_eq (by decide)

/-- The reference of sky time or the width lies outside its range (R173). -/
def TakenClamped (x : WatchRequest) : Prop :=
  x.width < 1 ∨ 2 ^ 31 < x.width ∨ (x.subject = .skyTime ∧ (x.reference < skyMin ∨ skyMax < x.reference))

theorem takeWidth_ne_iff (x : Int) : takeWidth x ≠ x ↔ x < 1 ∨ 2 ^ 31 < x := by
  rw [takeWidth_eq]
  omega

theorem clampSky_ne_iff (x : Int) : clampSky x ≠ x ↔ x < skyMin ∨ skyMax < x := by
  have range : skyMin ≤ skyMax := by decide
  rw [clampSky_eq]
  omega

theorem referenceClamped_iff (subject : WatchSubject) (x : Int) :
    referenceClamped subject x = true ↔ subject = .skyTime ∧ (x < skyMin ∨ skyMax < x) := by
  cases subject with
  | skyTime => simp [referenceClamped, clampSky_ne_iff]
  | axis a => simp [referenceClamped]

theorem takenClamped_iff (x : WatchRequest) :
    (referenceClamped x.subject x.reference || decide (takeWidth x.width ≠ x.width)) = true ↔ TakenClamped x := by
  rw [Bool.or_eq_true, referenceClamped_iff, decide_eq_true_iff, takeWidth_ne_iff, or_comm, or_assoc]
  rfl

/-! ### The checks in their order (R173) -/

/-- The grant check of a scope passes GLOBAL entries and the holder (R173, R174). -/
theorem grantCheck_passes {scope : WatchScope} {s : State} {l : Link}
    (granted : scope = .global ∨ s.grant.holder = some l) : ¬ (scope = .local_ ∧ s.grant.holder ≠ some l) := by
  rintro ⟨isLocal, other⟩
  rcases granted with isGlobal | holds
  · exact absurd (isLocal.symm.trans isGlobal) nofun
  · exact other holds

/-- What WATCH SET makes of a request of good form. -/
def defineEntry (l : Link) (x : WatchRequest) (s : State) : Handled :=
  if x.scope = .local_ ∧ s.grant.holder ≠ some l then answer s .notGranted
  else if ownedByOther (s.watches.get x.entry) l then answer s .owned
  else
    answer (s.setWatch x.entry { definition := some (entryFrom l x), hit := false, met := false })
      (clampedIf (referenceClamped x.subject x.reference || decide (takeWidth x.width ≠ x.width)))

theorem execWatchSet_eq {s : State} {l : Link} {p : List Byte} {x : WatchRequest} (form : readWatchSet p = some x)
    (ready : Ready s l 0x38 p) {h : Handled} (handled : defineEntry l x (s.dropFrame l) = h) :
    exec (.watchSet l p) s = .next (replied h.state l 0x38 h.status h.data) := by
  show execWatchSet l p s = _
  unfold execWatchSet
  refine take_replied ready ?_
  rw [form]
  exact handled

section Checks

variable {s : State} {l : Link} {x : WatchRequest}

theorem defineEntry_notGranted (isLocal : x.scope = .local_) (other : s.grant.holder ≠ some l) :
    defineEntry l x s = answer s .notGranted := if_pos ⟨isLocal, other⟩

variable (granted : x.scope = .global ∨ s.grant.holder = some l)
include granted

theorem defineEntry_owned
    (owned : ∃ w, (s.watches.get x.entry).definition = some w ∧ w.owner ≠ l ∧ l ≠ .c) :
    defineEntry l x s = answer s .owned := by
  rw [defineEntry, if_neg (grantCheck_passes granted), if_pos (ownedByOther_iff.mpr owned)]

theorem defineEntry_defined
    (free : ¬ ∃ w, (s.watches.get x.entry).definition = some w ∧ w.owner ≠ l ∧ l ≠ .c) {status : Status}
    (clamped : (TakenClamped x ∧ status = .clamped) ∨ (¬ TakenClamped x ∧ status = .ok)) :
    defineEntry l x s =
      answer (s.setWatch x.entry { definition := some (entryFrom l x), hit := false, met := false }) status := by
  rw [defineEntry, if_neg (grantCheck_passes granted), if_neg (mt ownedByOther_iff.mp free)]
  rcases clamped with ⟨outside, rfl⟩ | ⟨inside, rfl⟩
  · rw [(takenClamped_iff x).mpr outside]
    rfl
  · rw [Bool.eq_false_iff.mpr (mt (takenClamped_iff x).mp inside)]
    rfl

end Checks

/-- Settles O40: the form check by its reader, and then the checks of a well-formed request in their order. -/
theorem watchSetDefinesEntry : Obligations.WatchSetDefinesEntry := by
  constructor
  · intro s l entry scope subject condition action r len malformed p ready
    have form : readWatchSet p = none := readWatchSet_malformed len malformed
    exact (take_answered ready (by rw [form]) : execWatchSet l p s = _)
  · intro s l n scope subject condition reference width action low high natural fits legal p ready q others reference' w
      clamped
    have form := readWatchSet_beBytes n scope subject condition action low high natural fits legal
    have entry : entryFrom l ⟨n, scope, subject, condition, reference, width, action⟩ = w := by
      simp only [entryFrom, takeWidth_eq, w, reference']
      cases subject with
      | skyTime => rw [takeReference, clampSky_eq]
      | axis a => rw [takeReference_axis]
    refine ⟨fun isLocal other => ?_, fun granted => ⟨fun owned => ?_, fun free => ?_⟩⟩
    · exact execWatchSet_eq form ready (defineEntry_notGranted (s := q) isLocal other)
    · exact execWatchSet_eq form ready (defineEntry_owned (s := q) granted owned)
    · have defines {status : Status} := defineEntry_defined (s := q) (status := status)
        (x := ⟨n, scope, subject, condition, reference, width, action⟩) granted free
      rw [← entry]
      exact ⟨fun outside => execWatchSet_eq form ready (defines (.inl ⟨outside, rfl⟩)),
        fun inside => execWatchSet_eq form ready (defines (.inr ⟨inside, rfl⟩))⟩

end Sys2Proof.Proofs
end

section
/-! PROOFS. WATCH ENABLE, WATCH DISABLE and WATCH CLEAR by the condition of the entry that they name, and WATCH ACKNOWLEDGE
(R174, R175). -/

namespace Sys2Proof.Proofs

open Machine Safety

/-! ### The three requests that name one entry (R174) -/

/-- What the three have in common: OWNED for another link's entry, one answer for a FREE one, and an act of the request's
own on the definition of the others. -/
def onEntry (s : State) (l : Link) (n : WatchNo) (free : Status) (act : WatchDef → Handled) : Handled :=
  if ownedByOther (s.watches.get n) l then answer s .owned
  else
    match (s.watches.get n).definition with
    | none => answer s free
    | some w => act w

/-- WATCH ENABLE's act. -/
def enableWatch (s : State) (l : Link) (n : WatchNo) (w : WatchDef) : Handled :=
  if w.scope = .local_ ∧ s.grant.holder ≠ some l then answer s .notGranted
  else answer (s.setWatch n { s.watches.get n with definition := some { w with enabled := true } }) .ok

/-- WATCH DISABLE's act. -/
def disableWatch (s : State) (n : WatchNo) (w : WatchDef) : Handled :=
  answer (s.setWatch n { s.watches.get n with definition := some { w with enabled := false } }) .ok

/-- WATCH CLEAR's act. -/
def clearWatch (s : State) (n : WatchNo) : Handled :=
  answer (s.setWatch n { definition := none, hit := false, met := false }) .ok

section Entry

variable {s : State} {l : Link} {n : WatchNo} {w : WatchDef} {free : Status} {act : WatchDef → Handled}

theorem onEntry_owned (here : (s.watches.get n).definition = some w) (other : w.owner ≠ l) (notConsole : l ≠ .c) :
    onEntry s l n free act = answer s .owned := if_pos (ownedByOther_iff.mpr ⟨w, here, other, notConsole⟩)

theorem onEntry_free (here : (s.watches.get n).definition = none) : onEntry s l n free act = answer s free := by
  have unowned : ¬ ownedByOther (s.watches.get n) l = true := by
    rw [ownedByOther_iff, here]
    rintro ⟨_, ⟨⟩, _⟩
  rw [onEntry, if_neg unowned, here]

theorem onEntry_own (here : (s.watches.get n).definition = some w) (own : w.owner = l ∨ l = .c) :
    onEntry s l n free act = act w := by
  have mine : ¬ ownedByOther (s.watches.get n) l = true := by
    rw [ownedByOther_iff, here]
    rintro ⟨_, ⟨⟩, other, notConsole⟩
    exact own.elim other notConsole
  rw [onEntry, if_neg mine, here]

theorem enableWatch_notGranted (isLocal : w.scope = .local_) (other : s.grant.holder ≠ some l) :
    enableWatch s l n w = answer s .notGranted := if_pos ⟨isLocal, other⟩

theorem enableWatch_granted (granted : w.scope = .global ∨ s.grant.holder = some l) :
    enableWatch s l n w =
      answer (s.setWatch n { s.watches.get n with definition := some { w with enabled := true } }) .ok :=
  if_neg (grantCheck_passes granted)

end Entry

/-! ### The requests taken (R174, R180) -/

section Taken

variable {s : State} {l : Link} {n : WatchNo} {h : Handled}

theorem exec_watchEnable (ready : Ready s l 0x39 (beBytes 1 n.val))
    (handled : onEntry (s.dropFrame l) l n .empty (enableWatch (s.dropFrame l) l n) = h) :
    exec (.watchEnable l (beBytes 1 n.val)) s = .next (replied h.state l 0x39 h.status h.data) := by
  show execWatchEnable l _ s = _
  unfold execWatchEnable
  refine take_replied ready ?_
  rw [readWatchNo_beBytes]
  exact handled

theorem exec_watchDisable (ready : Ready s l 0x3A (beBytes 1 n.val))
    (handled : onEntry (s.dropFrame l) l n .ok (disableWatch (s.dropFrame l) n) = h) :
    exec (.watchDisable l (beBytes 1 n.val)) s = .next (replied h.state l 0x3A h.status h.data) := by
  show execWatchDisable l _ s = _
  unfold execWatchDisable
  refine take_replied ready ?_
  rw [readWatchNo_beBytes]
  exact handled

theorem exec_watchClear (ready : Ready s l 0x3B (beBytes 1 n.val))
    (handled : onEntry (s.dropFrame l) l n .ok (fun _ => clearWatch (s.dropFrame l) n) = h) :
    exec (.watchClear l (beBytes 1 n.val)) s = .next (replied h.state l 0x3B h.status h.data) := by
  show execWatchClear l _ s = _
  unfold execWatchClear
  refine take_replied ready ?_
  rw [readWatchNo_beBytes]
  exact handled

/-- WATCH ACKNOWLEDGE clears the marks that its byte names (R175). -/
theorem exec_watchAcknowledge {marks : Nat} (byte : marks < 256) (ready : Ready s l 0x3D (beBytes 1 marks)) :
    exec (.watchAcknowledge l (beBytes 1 marks)) s =
      .next (replied ((s.dropFrame l).setWatches (Table.build fun i => acknowledge marks i (s.watches.get i))) l 0x3D .ok
        .none) := by
  show execWatchAcknowledge l _ s = _
  unfold execWatchAcknowledge
  rw [take_replied (k := kWatchAcknowledge) ready rfl, readMarks_beBytes byte]
  rfl

end Taken

/-- Settles O41, by the condition of the entry that the request names. -/
theorem watchEntryRequests : Obligations.WatchEntryRequests := by
  intro s l n q x p put
  refine ⟨fun w here other notConsole => ?_, fun here => ?_, fun w here own => ?_, fun marks byte ready => ?_⟩
  · refine ⟨fun ready => ?_, fun ready => ?_, fun ready => ?_⟩
    · exact exec_watchEnable ready (onEntry_owned (s := q) here other notConsole)
    · exact exec_watchDisable ready (onEntry_owned (s := q) here other notConsole)
    · exact exec_watchClear ready (onEntry_owned (s := q) here other notConsole)
  · refine ⟨fun ready => ?_, fun ready => ?_, fun ready => ?_⟩
    · exact exec_watchEnable ready (onEntry_free (s := q) here)
    · exact exec_watchDisable ready (onEntry_free (s := q) here)
    · exact exec_watchClear ready (onEntry_free (s := q) here)
  · have mine {free : Status} {act : WatchDef → Handled} : onEntry q l n free act = act w := onEntry_own here own
    refine ⟨fun ready isLocal other => ?_, fun ready granted => ?_, fun ready => ?_, fun ready => ?_⟩
    · exact exec_watchEnable ready (mine.trans (enableWatch_notGranted isLocal other))
    · exact exec_watchEnable ready (mine.trans (enableWatch_granted granted))
    · exact exec_watchDisable ready mine
    · exact exec_watchClear ready mine
  · refine ⟨_, exec_watchAcknowledge byte ready, fun i => ?_⟩
    rw [Table.get_build]
    rfl

end Sys2Proof.Proofs
end

section
/-! PROOFS. What the blocks other than the links do to the links: they send events (R193). Said once for every shared
operation, as a relation between the links before and after. -/

namespace Sys2Proof.Proofs

open Machine Safety

/-! ### Links that took events alone -/

/-- An event does not bear on the reply slot and the input buffer (R193). -/
theorem push_slots (x : LinkState) (e : Event) : (x.push e).reply = x.reply ∧ (x.push e).buffer = x.buffer := by
  unfold LinkState.push
  split <;> exact ⟨rfl, rfl⟩

/-- An event is appended below the depth of the queue alone, so the queue does not grow past it (R193). -/
theorem push_keeps_linkLaw {x : LinkState} (h : LinkLaw x) (e : Event) : LinkLaw (x.push e) := by
  obtain ⟨frames, events, payloads, reports, receiver⟩ := h
  unfold LinkState.push
  split
  next free => exact ⟨frames, by simpa using free, payloads, reports, receiver⟩
  next => exact ⟨frames, events, payloads, reports, receiver⟩

/-- Events sent to a link one after another (R193). -/
def pushAll (es : List Event) (x : LinkState) : LinkState := es.foldl (fun x e => x.push e) x

theorem pushAll_slots (es : List Event) (x : LinkState) :
    (pushAll es x).reply = x.reply ∧ (pushAll es x).buffer = x.buffer := by
  induction es generalizing x with
  | nil => exact ⟨rfl, rfl⟩
  | cons e rest ih =>
    obtain ⟨reply, buffer⟩ := push_slots x e
    exact ⟨(ih _).1.trans reply, (ih _).2.trans buffer⟩

theorem pushAll_keeps_linkLaw {x : LinkState} (h : LinkLaw x) (es : List Event) : LinkLaw (pushAll es x) := by
  induction es generalizing x with
  | nil => exact h
  | cons e rest ih => exact ih (push_keeps_linkLaw h e)

/-- Every link at `t` is the link at `s` with the same events sent to it (R193). -/
def EventsSent (s t : State) : Prop := ∃ es : List Event, ∀ l, t.link l = pushAll es (s.link l)

theorem EventsSent.refl (s : State) : EventsSent s s := ⟨[], fun _ => rfl⟩

theorem EventsSent.of_links {s t : State} (same : t.links = s.links) : EventsSent s t :=
  ⟨[], fun l => congrArg (fun x : Links => x.get l) same⟩

theorem EventsSent.slots {s t : State} (sent : EventsSent s t) (l : Link) :
    (t.link l).reply = (s.link l).reply ∧ (t.link l).buffer = (s.link l).buffer := by
  obtain ⟨es, links⟩ := sent
  rw [links]
  exact pushAll_slots es _

theorem EventsSent.linksLaw {s t : State} (sent : EventsSent s t) (h : LinksLaw s) : LinksLaw t := by
  obtain ⟨es, links⟩ := sent
  intro l
  rw [links]
  exact pushAll_keeps_linkLaw (h l) es

section Shared

variable {s t : State} (h : EventsSent s t)
include h

theorem EventsSent.send (e : Event) : EventsSent s (t.send e) := by
  obtain ⟨es, links⟩ := h
  refine ⟨es ++ [e], fun l => ?_⟩
  rw [State.send_link, links, pushAll, pushAll, List.foldl_append]
  rfl

/-! ### Hold causes, the watch unit and the grant (R147 to R152, R165 to R172, R187) -/

theorem EventsSent.enterHold (cause : HoldCause) : EventsSent s (enterHold t cause) := h.send (.holdEntered cause t.clock.t)

theorem EventsSent.handCause (cause : HoldCause) : EventsSent s (handCause t cause) := by
  rcases handCause_cases t cause with ⟨_, _, e⟩ | ⟨_, _, e⟩ | ⟨_, _, _, e⟩ <;> rw [e]
  · exact h.enterHold cause
  · exact h
  · exact h

theorem EventsSent.foldl_sendWatch (fired : List WatchNo) : EventsSent s (fired.foldl sendWatch t) := by
  induction fired generalizing t with
  | nil => exact h
  | cons i rest ih =>
    refine ih ?_
    rcases sendWatch_clean t i with ⟨_, _, e⟩ | ⟨_, e⟩ <;> rw [e]
    · exact h.send _
    · exact h

theorem EventsSent.observe (subject : WatchSubject) (ch : Change) : EventsSent s (observe t subject ch) := by
  obtain ⟨u, hu, outcome⟩ := observe_cases t subject ch
  have fired : EventsSent s u := by
    have marked : EventsSent s
        (t.setWatches (Table.map (Watch.mark subject ch (!(firedEntries t subject ch).isEmpty)) t.watches)) := h
    rw [hu]
    exact marked.foldl_sendWatch _
  rcases outcome with ⟨_, e⟩ | ⟨_, _, _, e⟩ <;> rw [e]
  · exact fired
  · exact fired.handCause _

theorem EventsSent.grantChange (holder : Option Link) (queue : List Link) (reason : GrantReason) :
    EventsSent s (grantChange t holder queue reason) :=
  h.send (.grant holder t.grant.holder reason (decide (reason = .seize)))

theorem EventsSent.releaseGrant (reason : GrantReason) : EventsSent s (releaseGrant t reason) := by
  rcases releaseGrant_cases t reason with ⟨_, e⟩ | ⟨_, _, _, e⟩ <;> rw [e] <;> exact h.grantChange _ _ _

theorem EventsSent.guardExpire (l : Link) (action : GuardAction) : EventsSent s (guardExpire t l action) := by
  have told := h.send (.guardExpired l action)
  have released (c : Bool) : EventsSent s
      (if c then Machine.releaseGrant (t.send (.guardExpired l action)) .guard else t.send (.guardExpired l action)) := by
    split
    · exact told.releaseGrant _
    · exact told
  have target (c : Bool) (u : State) (hu : EventsSent s u) :
      EventsSent s (if c then u.setClock u.clock.releaseTarget else u) := by
    split <;> exact hu
  have caused (u : State) (hu : EventsSent s u) :
      EventsSent s (if action = .hold then Machine.handCause u (.guard l) else u) := by
    split
    · exact hu.handCause _
    · exact hu
  exact caused _ (target _ _ (released _))

/-! ### The clock step and RESUME (R5, R155 to R158) -/

theorem EventsSent.sendSkyLimit (side : Option Side) : EventsSent s (sendSkyLimit t side) := by
  cases side with
  | none => exact h
  | some side => exact h.send _

theorem EventsSent.resumeShow (snap : Snapshot) : EventsSent s (resumeShow t snap) := by
  have resumed (clock : Clock) (axes : Vector AxisChannel 17) (e : Event) :
      EventsSent s ((((t.setClock clock).setAxes axes).setHold (.normal (some snap))).send e) := h.send e
  unfold Machine.resumeShow
  simp only
  split
  · exact resumed _ _ _
  · exact (resumed _ _ _).observe _ _

/-! ### Evaluations and the stages of an update (R41, R48, R50, R102, R103, R122, R126) -/

theorem EventsSent.evaluateTrack (k : Track) : EventsSent s (evaluateTrack t k) := by
  unfold Machine.evaluateTrack Machine.sendSourceChange
  simp only
  split
  · exact h
  · exact h.send (.sourceChange k _)

theorem EventsSent.evaluatePhase : EventsSent s (evaluatePhase t) := by
  have evaluated := (h.evaluateTrack 1).evaluateTrack 0
  rcases evaluatePhase_cases t with e | ⟨_, e⟩ <;> rw [e] <;> exact evaluated

theorem EventsSent.roleTarget (a : Axis) : EventsSent s (roleTarget t a).1 := by
  unfold Machine.roleTarget
  split_ifs
  · exact h
  · exact h
  · exact h
  · cases axisTrack a with
    | none => exact h.evaluatePhase
    | some k => exact h.evaluateTrack k

theorem EventsSent.softClamp (a : Axis) (c : AxisChannel) : EventsSent s (softClamp t a c).1 := by
  unfold Machine.softClamp
  split
  · exact h.send _
  · exact h

theorem EventsSent.lagTest (a : Axis) (c : AxisChannel) (e : Int) : EventsSent s (lagTest t a c e).1 := by
  unfold Machine.lagTest
  split_ifs
  · exact h
  · exact h.send _
  · exact h

theorem EventsSent.homingEnd (a : Axis) (c : AxisChannel) (x : HomingRecord) (moved vmax : Int) :
    EventsSent s (homingEnd t a c x moved vmax).1 := by
  have ended : EventsSent s (settled t a c).1 := by
    unfold settled
    split <;> exact h.send _
  unfold Machine.homingEnd
  simp only
  split
  · exact h
  · cases x.phase <;> simp only
    case seek =>
      split
      · exact h.send _
      · exact h
    case backoff => split <;> exact h
    case creep => exact h
    case settle =>
      split
      · exact ended
      · exact h

theorem EventsSent.updateStages {a : Axis} {y : State × AxisChannel} (hy : updateStages t a = some y) :
    EventsSent s y.1 := by
  unfold Machine.updateStages at hy
  split at hy <;> cases hy
  case h_1 => exact ((h.roleTarget a).softClamp a _).lagTest a _ _
  case h_2 => exact h.softClamp a _
  case h_3 => exact h.softClamp a _
  case h_4 => exact h.softClamp a _
  case h_5 => exact h.softClamp a _
  case h_6 => exact h.homingEnd a _ _ _ _

/-! ### Trips and end switches (R132 to R139) -/

theorem EventsSent.reportFault (a : Axis) (kind : HoldFaultKind) : EventsSent s (reportFault t a kind) :=
  (h.send _).handCause _

theorem EventsSent.switchActive (a : Axis) (side : Side) : EventsSent s (switchActive t a side) := by
  have faulted : EventsSent s (t.setAxis a (switchFault side (t.axis a))) := h
  unfold Machine.switchActive
  split
  · exact faulted.reportFault a _
  · exact h

theorem EventsSent.manualTrip (a : Axis) : EventsSent s (manualTrip t a) := by
  have faulted : EventsSent s (t.setAxis a (tripFault (t.axis a))) := h
  exact faulted.reportFault a .trip

theorem EventsSent.retryTrip (a : Axis) (prior : PriorMode) : EventsSent s (retryTrip t a prior) := by
  have counted : EventsSent s (t.setAxis a (countTrip (t.axis a))) := h
  unfold Machine.retryTrip
  simp only
  split
  · exact h
  · exact counted.manualTrip a

theorem EventsSent.tripped (a : Axis) : EventsSent s (tripped t a) := by
  have disabled : EventsSent s (t.setAxis a (disableDrive (t.axis a))) := h
  unfold Machine.tripped
  split
  · exact h
  · exact h.retryTrip a _
  · split
    · exact disabled.retryTrip a _
    · exact disabled.manualTrip a

theorem EventsSent.tripSeen (x : TripSeen) : EventsSent s (tripSeen t x) := by
  have kept (line : TripLine) : EventsSent s (t.setTripLine x.axis line) := h
  rcases tripSeen_cases t x with ⟨_, _, _, e⟩ | ⟨_, _, _, e⟩ | ⟨_, e⟩ <;> rw [e]
  · exact (kept _).tripped _
  · exact kept _
  · exact h

theorem EventsSent.takeTripLines (trips : List Axis) : EventsSent s (takeTripLines trips t) := by
  unfold Machine.takeTripLines
  induction trips generalizing t with
  | nil => exact h
  | cons a rest ih => exact ih (h.tripSeen _)

theorem EventsSent.takeSwitches (switches : List (Axis × Side)) : EventsSent s (takeSwitches switches t) := by
  unfold Machine.takeSwitches
  induction switches generalizing t with
  | nil => exact h
  | cons x rest ih => exact ih (h.switchActive _ _)

end Shared

end Sys2Proof.Proofs
end

section
/-! PROOFS. What taking a request does to the links, whichever request it is: its frame leaves, its one reply comes, and the
rest is its owner's events and, for four requests, fields of the link itself (R180, R193). -/

namespace Sys2Proof.Proofs

open Machine Safety

/-! ### One link written (R178, R179, R193, R194) -/

theorem setLink_link_ne {l m : Link} (other : m ≠ l) (s : State) (x : LinkState) :
    (s.setLink l x).link m = s.link m := by
  rw [State.setLink_link, if_neg other]

theorem setLink_link (s : State) (l : Link) : s.setLink l (s.link l) = s := by cases l <;> rfl

theorem setLink_setLink (s : State) (l : Link) (x y : LinkState) : (s.setLink l x).setLink l y = s.setLink l y := by
  cases l <;> rfl

theorem linksLaw_setLink {s : State} (h : LinksLaw s) {l : Link} {x : LinkState} (law : LinkLaw x) :
    LinksLaw (s.setLink l x) := by
  intro m
  rw [State.setLink_link]
  split
  · exact law
  · exact h m

theorem linksLaw_dropFrame {s : State} (h : LinksLaw s) (l : Link) : LinksLaw (s.dropFrame l) := by
  obtain ⟨frames, events, payloads, reports, receiver⟩ := h l
  refine linksLaw_setLink h ⟨?_, events, fun f hf => payloads f (List.mem_of_mem_tail hf), reports, receiver⟩
  simp only [List.length_tail]
  omega

theorem linksLaw_putReply {s : State} (h : LinksLaw s) (l : Link) (r : Reply) : LinksLaw (s.putReply l r) :=
  linksLaw_setLink h (h l)

/-! ### Takings -/

/-- What the owner of a request may make of its link: the reply slot is left, and so is the buffer, which LINK RESET alone
empties; the law of the link is kept (R180, R197). -/
def OwnLinkKept (k : Byte) (p : List Byte) (x y : LinkState) : Prop :=
  y.reply = x.reply ∧ y.buffer = (if k = 0x4B ∧ p = [] then [] else x.buffer) ∧ (LinkLaw x → LinkLaw y)

/-- What the owner of a request may make of the links: a change of the request's own link, and events (R180, R193). -/
def LinksHandled (l : Link) (k : Byte) (p : List Byte) (s t : State) : Prop :=
  ∃ y, OwnLinkKept k p (s.link l) y ∧ EventsSent (s.setLink l y) t

/-- A meaning that takes the request's frame from its link, and does no more to the links than its owner may. -/
def Taking (l : Link) (k : Byte) (p : List Byte) (meaning : State → Result) : Prop :=
  ∃ handle, ∀ s, meaning s = take l ⟨k, p⟩ handle s ∧ LinksHandled l k p s (handle s).state

/-- A request that writes no link: its owner may send events. -/
theorem taking_of_sends {l : Link} {k : Byte} {p : List Byte} {handle : State → Handled} (notReset : k ≠ 0x4B)
    (sends : ∀ s, EventsSent s (handle s).state) : Taking l k p (take l ⟨k, p⟩ handle) := by
  refine ⟨handle, fun s => ⟨rfl, s.link l, ⟨rfl, (if_neg fun reset => notReset reset.1).symm, id⟩, ?_⟩⟩
  rw [setLink_link]
  exact sends s

/-- A request that its link can take leaves one reply, the buffer without its frame, and the other links with their reply
slots and buffers (R180). -/
theorem Taking.ready {l : Link} {k : Byte} {p : List Byte} {meaning : State → Result} (taking : Taking l k p meaning)
    {s : State} (ready : Ready s l k p) :
    ∃ t status data, meaning s = .next t ∧ (t.link l).reply = some { request := k, status := status, data := data } ∧
      (t.link l).buffer = (if k = 0x4B ∧ p = [] then [] else (s.link l).buffer.tail) ∧
      ∀ m, m ≠ l → (t.link m).reply = (s.link m).reply ∧ (t.link m).buffer = (s.link m).buffer := by
  obtain ⟨handle, handled⟩ := taking
  obtain ⟨_, y, ⟨_, buffer, _⟩, sent⟩ := handled (s.dropFrame l)
  refine ⟨_, (handle (s.dropFrame l)).status, (handle (s.dropFrame l)).data, (handled s).1.trans (take_ready ready), ?_, ?_,
    fun m other => ?_⟩
  · rw [State.putReply_link_self]
  · rw [State.putReply_link_self]
    rw [State.dropFrame_link_self] at buffer
    exact ((sent.slots l).2.trans (by rw [State.setLink_link_self])).trans buffer
  · have before : ((s.dropFrame l).setLink l y).link m = s.link m :=
      (setLink_link_ne other _ _).trans (setLink_link_ne other _ _)
    have slots := sent.slots m
    rw [before] at slots
    rwa [State.putReply, setLink_link_ne other]

theorem Taking.waits {l : Link} {k : Byte} {p : List Byte} {meaning : State → Result} (taking : Taking l k p meaning)
    {s : State} (waits : ¬ Ready s l k p) : meaning s = .next s := by
  obtain ⟨handle, handled⟩ := taking
  exact (handled s).1.trans <| take_waits (Bool.eq_false_of_not_eq_true waits)

/-- A meaning that answers a next state from every state, and keeps the laws of the links. -/
def AnswersLawful (meaning : State → Result) : Prop := ∀ s, ∃ t, meaning s = .next t ∧ (LinksLaw s → LinksLaw t)

theorem Taking.answersLawful {l : Link} {k : Byte} {p : List Byte} {meaning : State → Result}
    (taking : Taking l k p meaning) : AnswersLawful meaning := by
  intro s
  obtain ⟨handle, handled⟩ := taking
  cases can : s.canTake l ⟨k, p⟩ with
  | false => exact ⟨s, (handled s).1.trans (take_waits can), id⟩
  | true =>
    refine ⟨_, (handled s).1.trans (take_ready can), fun h => linksLaw_putReply ?_ _ _⟩
    obtain ⟨_, y, ⟨_, _, law⟩, sent⟩ := handled (s.dropFrame l)
    have dropped := linksLaw_dropFrame h l
    exact sent.linksLaw (linksLaw_setLink dropped (law (dropped l)))

end Sys2Proof.Proofs
end

section
/-! PROOFS. Each request is a taking: what its owner sends, and what the four requests of the link itself write (R7 to R197,
in the order of the command table). -/

namespace Sys2Proof.Proofs

open Machine Safety

section Requests

variable (l : Link) (p : List Byte)

/-! ### The sky clock and star ball geometry (R7 to R11, R25 to R29) -/

theorem execSetRate_taking : Taking l kSetRate p (execSetRate l p) :=
  taking_of_sends (by decide) fun s => by
    split
    · exact .refl s
    · exact needGrant_keeps (.refl s) (needNormal_keeps (.refl s) (.of_links rfl))

theorem jumpTo_sends (s : State) (t : Int) : EventsSent s (jumpTo s t).state := by
  have moved : EventsSent s (s.setClock { s.clock with t := clampSky t }) := .of_links rfl
  exact moved.observe _ _

theorem execSetTime_taking : Taking l kSetTime p (execSetTime l p) :=
  taking_of_sends (by decide) fun s => by
    split
    · exact .refl s
    · exact needGrant_keeps (.refl s) (needNormal_keeps (.refl s) (jumpTo_sends s _))

theorem execNudge_taking : Taking l kNudge p (execNudge l p) :=
  taking_of_sends (by decide) fun s => by
    split
    · exact .refl s
    · exact needGrant_keeps (.refl s) (needNormal_keeps (.refl s) (jumpTo_sends s _))

theorem execSetSite_taking : Taking l kSetSite p (execSetSite l p) :=
  taking_of_sends (by decide) fun s => by
    split
    · exact .refl s
    · exact needGrant_keeps (.refl s) (.of_links rfl)

theorem takeCouple_taking : Taking l kCouple p (take l ⟨kCouple, p⟩ (handleCouple l p)) :=
  taking_of_sends (by decide) fun s => by
    have coupled (on : Bool) : EventsSent s (couple s on) := by
      unfold couple
      split_ifs <;> exact .of_links rfl
    unfold handleCouple
    split
    · exact .refl s
    · exact needGrant_keeps (.refl s) (coupled _)

/-! ### The evaluator and the patch table (R51, R59 to R63) -/

theorem execReadTrack_taking : Taking l kReadTrack p (execReadTrack l p) :=
  taking_of_sends (by decide) fun s => by split <;> exact .refl s

theorem execPatchSet_taking : Taking l kPatchSet p (execPatchSet l p) :=
  taking_of_sends (by decide) fun s => by
    split
    · exact .refl s
    · refine needGrant_keeps (.refl s) ?_
      split <;> exact .of_links rfl

theorem execPatchEnable_taking : Taking l kPatchEnable p (execPatchEnable l p) :=
  taking_of_sends (by decide) fun s => by
    split
    · exact .refl s
    refine needGrant_keeps (.refl s) ?_
    split
    · exact .refl s
    · exact .refl s
    · split <;> exact .of_links rfl

theorem execPatchDisable_taking : Taking l kPatchDisable p (execPatchDisable l p) :=
  taking_of_sends (by decide) fun s => by
    split
    · exact .refl s
    · refine needGrant_keeps (.refl s) ?_
      split <;> exact .of_links rfl

theorem execPatchRead_taking : Taking l kPatchRead p (execPatchRead l p) :=
  taking_of_sends (by decide) fun s => by split <;> exact .refl s

/-! ### The ephemeris store (R69, R73 to R86) -/

theorem execSegmentWrite_taking : Taking l kSegmentWrite p (execSegmentWrite l p) :=
  taking_of_sends (by decide) fun s => by
    split
    · exact .refl s
    split
    · exact .refl s
    · split_ifs <;> exact .of_links rfl

theorem execSectorErase_taking : Taking l kSectorErase p (execSectorErase l p) :=
  taking_of_sends (by decide) fun s => by
    split
    · exact .refl s
    split
    · exact .refl s
    · split_ifs <;> exact .of_links rfl

theorem execEraseSuspend_taking : Taking l kEraseSuspend p (execEraseSuspend l p) :=
  taking_of_sends (by decide) fun s => by
    split
    · exact .refl s
    · split <;> exact .of_links rfl

theorem execEraseResume_taking : Taking l kEraseResume p (execEraseResume l p) :=
  taking_of_sends (by decide) fun s => by
    split
    · exact .refl s
    · split <;> exact .of_links rfl

theorem execSectorCheck_taking : Taking l kSectorCheck p (execSectorCheck l p) :=
  taking_of_sends (by decide) fun s => by
    split
    · exact .refl s
    · split <;> exact .of_links rfl

theorem execSaveParameters_taking : Taking l kSaveParameters p (execSaveParameters l p) :=
  taking_of_sends (by decide) fun s => by
    split
    · exact .refl s
    · refine needGrant_keeps (.refl s) ?_
      split <;> exact .of_links rfl

theorem execReadSegment_taking : Taking l kReadSegment p (execReadSegment l p) :=
  taking_of_sends (by decide) fun s => by
    split
    · exact .refl s
    · split <;> exact .refl s

theorem execProtect_taking : Taking l kProtect p (execProtect l p) :=
  taking_of_sends (by decide) fun s => by
    split
    · exact .refl s
    · split <;> exact .of_links rfl

/-! ### Axis channels and drive protection (R107 to R119, R141, R144) -/

theorem execTrack_taking : Taking l kTrack p (execTrack l p) :=
  taking_of_sends (by decide) fun s => by
    split
    · exact .refl s
    · refine needGrant_keeps (.refl s) (needNormal_keeps (.refl s) ?_)
      split <;> exact .of_links rfl

theorem execMove_taking : Taking l kMove p (execMove l p) :=
  taking_of_sends (by decide) fun s => by
    split
    · exact .refl s
    · refine needGrant_keeps (.refl s) (needNormal_keeps (.refl s) ?_)
      split <;> exact .of_links rfl

theorem execPark_taking : Taking l kPark p (execPark l p) :=
  taking_of_sends (by decide) fun s => by
    split
    · exact .refl s
    · exact needGrant_keeps (.refl s) (needNormal_keeps (.refl s) (.of_links rfl))

theorem execSetAxisParam_taking : Taking l kSetAxisParam p (execSetAxisParam l p) :=
  taking_of_sends (by decide) fun s => by
    split
    · exact .refl s
    · refine needGrant_keeps (.refl s) (needNormal_keeps (.refl s) ?_)
      simp only
      split_ifs <;> exact .of_links rfl

theorem execReadAxis_taking : Taking l kReadAxis p (execReadAxis l p) :=
  taking_of_sends (by decide) fun s => by split <;> exact .refl s

theorem execHome_taking : Taking l kHome p (execHome l p) :=
  taking_of_sends (by decide) fun s => by
    split
    · exact .refl s
    · refine needGrant_keeps (.refl s) (needNormal_keeps (.refl s) ?_)
      split <;> exact .of_links rfl

theorem execClearFault_taking (lines : Lines) : Taking l kClearFault p (execClearFault l p lines) :=
  taking_of_sends (by decide) fun s => by
    split
    · exact .refl s
    · refine needGrant_keeps (.refl s) ?_
      split_ifs <;> exact .of_links rfl

theorem execSetThermalLimit_taking : Taking l kSetThermalLimit p (execSetThermalLimit l p) :=
  taking_of_sends (by decide) fun s => by
    split
    · exact .refl s
    · exact needGrant_keeps (.refl s) (.of_links rfl)

/-! ### Hold and resume (R153 to R160) -/

theorem execHold_taking : Taking l kHold p (execHold l p) :=
  taking_of_sends (by decide) fun s => by
    split
    · exact .refl s
    · show EventsSent s (if s.inHold then s else enterHold s (.request l))
      split
      · exact .refl s
      · exact (EventsSent.refl s).enterHold _

theorem execResume_taking : Taking l kResume p (execResume l p) :=
  taking_of_sends (by decide) fun s => by
    split
    · exact .refl s
    split
    · exact .refl s
    split
    · exact .refl s
    next snap _ _ =>
      split
      · exact .refl s
      split
      next cause _ =>
        have taken : EventsSent s (s.setHold (.hold { snap with cause := cause } none)) := .of_links rfl
        exact taken.send _
      · exact (EventsSent.refl s).resumeShow _

theorem execSnapshotRead_taking : Taking l kSnapshotRead p (execSnapshotRead l p) :=
  taking_of_sends (by decide) fun s => by split <;> exact .refl s

theorem execSnapshotEdit_taking : Taking l kSnapshotEdit p (execSnapshotEdit l p) :=
  taking_of_sends (by decide) fun s => by
    split
    · exact .refl s
    split
    · exact .refl s
    · split <;> exact .of_links rfl

/-! ### The watch unit (R173 to R175) -/

theorem execWatchSet_taking : Taking l kWatchSet p (execWatchSet l p) :=
  taking_of_sends (by decide) fun s => by
    split
    · exact .refl s
    · split_ifs <;> exact .of_links rfl

theorem execWatchEnable_taking : Taking l kWatchEnable p (execWatchEnable l p) :=
  taking_of_sends (by decide) fun s => by
    split
    · exact .refl s
    simp only
    split
    · exact .refl s
    split
    · exact .refl s
    · split <;> exact .of_links rfl

theorem execWatchDisable_taking : Taking l kWatchDisable p (execWatchDisable l p) :=
  taking_of_sends (by decide) fun s => by
    split
    · exact .refl s
    simp only
    split
    · exact .refl s
    · split <;> exact .of_links rfl

theorem execWatchClear_taking : Taking l kWatchClear p (execWatchClear l p) :=
  taking_of_sends (by decide) fun s => by
    split
    · exact .refl s
    simp only
    split
    · exact .refl s
    · split <;> exact .of_links rfl

theorem execWatchStatus_taking : Taking l kWatchStatus p (execWatchStatus l p) :=
  taking_of_sends (by decide) fun s => by split <;> exact .refl s

theorem execWatchAcknowledge_taking : Taking l kWatchAcknowledge p (execWatchAcknowledge l p) :=
  taking_of_sends (by decide) fun s => by split <;> exact .of_links rfl

/-! ### The grant (R184 to R186) -/

theorem execGrantRequest_taking : Taking l kGrantRequest p (execGrantRequest l p) :=
  taking_of_sends (by decide) fun s => by
    split
    · exact .refl s
    split
    · exact (EventsSent.refl s).grantChange _ _ _
    · split_ifs <;> exact .of_links rfl

theorem execGrantRelease_taking : Taking l kGrantRelease p (execGrantRelease l p) :=
  taking_of_sends (by decide) fun s => by
    split
    · exact .refl s
    split
    · exact (EventsSent.refl s).releaseGrant _
    · exact .of_links rfl

theorem execGrantSeize_taking : Taking l kGrantSeize p (execGrantSeize l p) :=
  taking_of_sends (by decide) fun s => by
    split
    · exact .refl s
    split_ifs
    · exact .refl s
    · exact .refl s
    · exact (EventsSent.refl s).grantChange _ _ _

/-! ### The link's own condition (R189, R194, R196, R197) -/

/-- A request that leaves its link as it is. -/
theorem linksHandled_refl {k : Byte} (notReset : ¬ (k = 0x4B ∧ p = [])) (s : State) : LinksHandled l k p s s := by
  refine ⟨s.link l, ⟨rfl, (if_neg notReset).symm, id⟩, ?_⟩
  rw [setLink_link]
  exact .refl s

/-- A request that writes its link and sends nothing. -/
theorem linksHandled_setLink {l : Link} {k : Byte} {p : List Byte} {s : State} {y : LinkState}
    (kept : OwnLinkKept k p (s.link l) y) : LinksHandled l k p s (s.setLink l y) :=
  ⟨y, kept, .refl _⟩

theorem execGuardArm_taking : Taking l kGuardArm p (execGuardArm l p) := by
  refine ⟨_, fun s => ⟨rfl, ?_⟩⟩
  have same := linksHandled_refl l p (k := kGuardArm) (fun reset => absurd reset.1 (by decide)) s
  split
  · exact same
  · split
    · exact same
    · exact linksHandled_setLink ⟨rfl, rfl, id⟩

theorem execReportInterval_taking : Taking l kReportInterval p (execReportInterval l p) := by
  refine ⟨_, fun s => ⟨rfl, ?_⟩⟩
  split
  · exact linksHandled_refl l p (k := kReportInterval) (fun reset => absurd reset.1 (by decide)) s
  · refine linksHandled_setLink ⟨rfl, rfl, ?_⟩
    rintro ⟨frames, events, payloads, _, receiver⟩
    exact ⟨frames, events, payloads, fun _ => rfl, receiver⟩
  · refine linksHandled_setLink ⟨rfl, rfl, ?_⟩
    rintro ⟨frames, events, payloads, _, receiver⟩
    exact ⟨frames, events, payloads, nofun, receiver⟩

theorem execReadStatus_taking : Taking l kReadStatus p (execReadStatus l p) := by
  refine ⟨_, fun s => ⟨rfl, ?_⟩⟩
  split
  · exact linksHandled_refl l p (k := kReadStatus) (fun reset => absurd reset.1 (by decide)) s
  · exact linksHandled_setLink ⟨rfl, rfl, id⟩

theorem execLinkReset_taking : Taking l kLinkReset p (execLinkReset l p) := by
  refine ⟨_, fun s => ⟨rfl, ?_⟩⟩
  split
  next refused =>
    refine linksHandled_refl l p (fun reset => ?_) s
    rw [reset.2] at refused
    cases refused
  next accepted =>
    have empty : p = [] := by
      by_contra payload
      rw [readEmpty, ofLength_ne (mt List.length_eq_zero_iff.mp payload)] at accepted
      cases accepted
    refine ⟨(s.link l).resetRequest, ⟨rfl, (if_pos ⟨rfl, empty⟩).symm, ?_⟩, ?_⟩
    · rintro ⟨_, _, _, _, receiver⟩
      exact ⟨Nat.zero_le _, Nat.zero_le _, nofun, fun _ => rfl, receiver⟩
    · have left : EventsSent (s.setLink l (s.link l).resetRequest)
          (leaveQueue (s.setLink l (s.link l).resetRequest) l) := .of_links rfl
      simp only [answer]
      split
      · exact left.releaseGrant _
      · exact left

/-! ### Frames that are no request (R180) -/

theorem takeNonRequest_taking {k : Byte} (notReset : k ≠ 0x4B) :
    Taking l k p (take l ⟨k, p⟩ fun s => answerWith s .malformed (.kindReceived k)) :=
  taking_of_sends notReset fun s => .refl s

end Requests

end Sys2Proof.Proofs
end

section
/-! PROOFS. Every command answers a next state in which the links keep their laws; every request is a taking (R178 to R194). -/

namespace Sys2Proof.Proofs

open Machine Safety

/-! ### Characters and frames in (R178, R179, R190) -/

section Receiver

variable {x : LinkState} (h : LinkLaw x)
include h

theorem hunting_keeps_linkLaw : LinkLaw { x with receiver := .hunting } := by
  obtain ⟨frames, events, payloads, reports, _⟩ := h
  exact ⟨frames, events, payloads, reports, nofun⟩

theorem dropped_keeps_linkLaw : LinkLaw x.dropped := hunting_keeps_linkLaw (x := x.raiseLineError) h

/-- A frame is appended below the depth of the buffer alone (R179). -/
theorem arrive_keeps_linkLaw {f : Frame} (fits : f.payload.length ≤ Config.maxPayload) : LinkLaw (x.arrive f) := by
  obtain ⟨frames, events, payloads, reports, receiver⟩ := h
  unfold LinkState.arrive
  simp only
  split
  next free =>
    refine ⟨by simpa using free, events, fun g hg => ?_, reports, receiver⟩
    rcases List.mem_append.mp hg with held | new
    · exact payloads g held
    · rwa [List.mem_singleton.mp new]
  next => exact ⟨frames, events, payloads, reports, receiver⟩

theorem complete_keeps_linkLaw {body : List Byte} (fits : body.length ≤ Config.maxPayload + 4) :
    LinkLaw (x.complete body) := by
  unfold LinkState.complete
  simp only
  split
  · refine arrive_keeps_linkLaw (hunting_keeps_linkLaw h) ?_
    simp only [List.length_take]
    omega
  · exact dropped_keeps_linkLaw h

/-- A receiver completes a frame at the character that its length byte counts to, so it never collects past it (R178). -/
theorem character_keeps_linkLaw (char : Byte) (fault : Bool) : LinkLaw (x.character char fault) := by
  have law := h
  obtain ⟨frames, events, payloads, reports, receiver⟩ := h
  unfold LinkState.character
  split
  next =>
    split
    · exact law
    · refine ⟨frames, events, payloads, reports, ?_⟩
      rintro got ⟨⟩
      trivial
  next got collecting =>
    split
    · exact dropped_keeps_linkLaw law
    simp only
    split
    · exact dropped_keeps_linkLaw law
    next short =>
      split
      next more =>
        refine ⟨frames, events, payloads, reports, ?_⟩
        rintro body ⟨⟩
        cases got with
        | nil => exact ⟨Nat.le_of_not_lt short, more⟩
        | cons n rest => exact ⟨Nat.le_of_not_lt short, more⟩
      next =>
        refine complete_keeps_linkLaw law ?_
        cases got with
        | nil => simp [Config.maxPayload]
        | cons n rest =>
          obtain ⟨len, count⟩ := receiver _ collecting
          simp only [List.length_append, List.length_cons, List.length_nil] at count ⊢
          omega

/-- The transmitter takes from the link and adds nothing to it (R181). -/
theorem transmit_keeps_linkLaw : LinkLaw x.transmit := by
  have law := h
  obtain ⟨frames, events, payloads, reports, receiver⟩ := h
  unfold LinkState.transmit
  split
  · exact law
  split
  · exact ⟨frames, events, payloads, fun _ => rfl, receiver⟩
  split
  next e rest waiting =>
    rw [waiting, List.length_cons] at events
    exact ⟨frames, Nat.le_of_succ_le events, payloads, reports, receiver⟩
  · exact law

/-- The timers of a link do not bear on its law, for an interval stays an interval (R194). -/
theorem elapse_keeps_linkLaw : LinkLaw x.elapse := by
  obtain ⟨frames, events, payloads, reports, receiver⟩ := h
  refine ⟨frames, events, payloads, fun off => reports ?_, receiver⟩
  unfold LinkState.elapse at off
  simp only at off
  split at off
  · cases off
  · exact off

end Receiver

/-! ### The events of the outside world -/

/-- A meaning that changes one link by a function that keeps its law. -/
theorem answersLawful_setLink {l : Link} {f : LinkState → LinkState} (kept : ∀ x, LinkLaw x → LinkLaw (f x)) :
    AnswersLawful fun s => .next (s.setLink l (f (s.link l))) :=
  fun _ => ⟨_, rfl, fun h => linksLaw_setLink h (kept _ (h l))⟩

/-- A meaning that answers a next state and sends no more than events to the links. -/
def AnswersEvents (meaning : State → Result) : Prop := ∀ s, ∃ t, meaning s = .next t ∧ EventsSent s t

theorem AnswersEvents.lawful {meaning : State → Result} (answers : AnswersEvents meaning) : AnswersLawful meaning := by
  intro s
  obtain ⟨t, next, sent⟩ := answers s
  exact ⟨t, next, sent.linksLaw⟩

/-! The sky clock, the axes and the thermal monitor (R3 to R6, R95 to R105, R128 to R143). -/

theorem execClockStep_answers : AnswersEvents execClockStep := by
  intro s
  have advanced : EventsSent s (s.setClock (clockAdvance s.clock).1) := .of_links rfl
  exact ⟨_, rfl, (advanced.sendSkyLimit _).observe _ _⟩

theorem execProfileUpdate_answers (a : Axis) : AnswersEvents (execProfileUpdate a) := by
  intro s
  unfold execProfileUpdate
  split
  next y hy =>
    have updated : EventsSent s (y.1.setAxis a y.2) := (EventsSent.refl s).updateStages hy
    exact ⟨_, rfl, updated.observe _ _⟩
  next =>
    have rests : EventsSent s (s.setAxis a { s.axis a with burst := 0 }) := .of_links rfl
    exact ⟨_, rfl, rests.observe _ _⟩

theorem execRetryExpiry_answers (a : Axis) (line : Bool) : AnswersEvents (execRetryExpiry a line) := by
  intro s
  have read : EventsSent s (s.setTripLine a (readTripLine (s.axis a) line)) := .of_links rfl
  unfold execRetryExpiry
  split
  · simp only
    split
    · exact ⟨_, rfl, read.retryTrip a _⟩
    · exact ⟨_, rfl, read⟩
  · exact ⟨_, rfl, .refl s⟩

theorem execTripWindowExpiry_answers (a : Axis) : AnswersEvents (execTripWindowExpiry a) := by
  intro s
  unfold execTripWindowExpiry
  split
  · exact ⟨_, rfl, .of_links rfl⟩
  · exact ⟨_, rfl, .refl s⟩

theorem execThermalSample_answers (celsius : Int) : AnswersEvents (execThermalSample celsius) := by
  intro s
  have warned (th : Thermal) (old new : Bool) : EventsSent s (sendWarning (s.setThermal th) old new celsius) := by
    have sampled : EventsSent s (s.setThermal th) := .of_links rfl
    unfold sendWarning
    split
    · exact sampled
    · exact sampled.send _
  unfold execThermalSample
  simp only
  split
  · exact ⟨_, rfl, ((warned _ _ _).send _).handCause _⟩
  · exact ⟨_, rfl, warned _ _ _⟩

/-! The ends of the store's works (R74 to R84, R88). -/

/-- The store after a work ended, told to every link (R88). -/
theorem storeDone_sends (s : State) (x : Store) (work : StoreWork) (result : CellResult) :
    EventsSent s ((s.setStore x).send (.storeDone work result)) := by
  have ended : EventsSent s (s.setStore x) := .of_links rfl
  exact ended.send _

theorem execWriteCompletion_answers (result : CellResult) : AnswersEvents (execWriteCompletion result) := by
  intro s
  unfold execWriteCompletion
  split
  · exact ⟨_, rfl, storeDone_sends s _ _ _⟩
  · exact ⟨_, rfl, storeDone_sends s _ _ _⟩
  · exact ⟨_, rfl, .refl s⟩

theorem execEraseCompletion_answers (result : CellResult) : AnswersEvents (execEraseCompletion result) := by
  intro s
  unfold execEraseCompletion
  split
  · exact ⟨_, rfl, storeDone_sends s _ _ _⟩
  · exact ⟨_, rfl, .refl s⟩

theorem execCheckSectorCovered_answers : AnswersEvents execCheckSectorCovered := by
  intro s
  unfold execCheckSectorCovered
  split
  · simp only
    split
    · exact ⟨_, rfl, .of_links rfl⟩
    · exact ⟨_, rfl, storeDone_sends s _ _ _⟩
  · exact ⟨_, rfl, .refl s⟩

theorem execSaveErasePhaseEnd_answers (result : CellResult) : AnswersEvents (execSaveErasePhaseEnd result) := by
  intro s
  unfold execSaveErasePhaseEnd
  split
  · split
    · exact ⟨_, rfl, .of_links rfl⟩
    · exact ⟨_, rfl, storeDone_sends s _ _ _⟩
  · exact ⟨_, rfl, .refl s⟩

theorem execSaveWritePhaseEnd_answers (result : CellResult) : AnswersEvents (execSaveWritePhaseEnd result) := by
  intro s
  unfold execSaveWritePhaseEnd
  split
  · split <;> exact ⟨_, rfl, storeDone_sends s _ _ _⟩
  · exact ⟨_, rfl, .refl s⟩

/-! Device reset and the links (R178 to R198). -/

/-- A start-up resets the links, and the lines active at its end send events (R132, R139, R198). -/
theorem execDeviceReset_answers (trips : List Axis) (switches : List (Axis × Side)) :
    AnswersLawful (execDeviceReset trips switches) := by
  intro s
  have started : EventsSent State.reset (powerOn s) := .of_links rfl
  exact ⟨_, rfl, fun _ => ((started.takeTripLines trips).takeSwitches switches).linksLaw reset_linksLaw⟩

theorem execFrameArrival_answers (l : Link) (k : Byte) (p : List Byte) : AnswersLawful (execFrameArrival l k p) := by
  intro s
  unfold execFrameArrival
  split
  next fits => exact ⟨_, rfl, fun h => linksLaw_setLink h (arrive_keeps_linkLaw (hunting_keeps_linkLaw (h l)) fits)⟩
  next => exact ⟨_, rfl, fun h => linksLaw_setLink h (dropped_keeps_linkLaw (h l))⟩

theorem execReportEvent_answers (l : Link) : AnswersLawful (execReportEvent l) := by
  intro s
  unfold execReportEvent
  split
  · exact ⟨_, rfl, id⟩
  · exact ⟨_, rfl, id⟩
  · refine ⟨_, rfl, fun h => linksLaw_setLink h ?_⟩
    obtain ⟨frames, events, payloads, _, receiver⟩ := h l
    exact ⟨frames, events, payloads, nofun, receiver⟩

theorem execGuardExpiry_answers (l : Link) : AnswersLawful (execGuardExpiry l) := by
  intro s
  unfold execGuardExpiry
  split
  · exact ⟨_, rfl, fun h => ((EventsSent.refl _).guardExpire l _).linksLaw (linksLaw_setLink h (h l))⟩
  · exact ⟨_, rfl, id⟩

/-! ### Every command -/

/-- A request is a taking of its frame, but for a row whose guard leaves the frame to another row (log 14, 17). -/
theorem exec_taking {i : Instr} {l : Link} {k : Byte} {p : List Byte} (frame : i.frame? = some (l, k, p)) :
    Taking l k p (exec i) ∨ (i.wf = false ∧ ∀ s, exec i s = .next s) := by
  cases i <;> cases frame
  case coupleOff =>
    by_cases on : p = [1]
    · exact .inr ⟨by simp [Instr.wf, on], fun s => if_pos on⟩
    · have row : exec (.coupleOff l p) = take l ⟨kCouple, p⟩ (handleCouple l p) := funext fun s => if_neg on
      exact .inl (row ▸ takeCouple_taking l p)
  case coupleOn =>
    by_cases off : p = [0]
    · exact .inr ⟨by simp [Instr.wf, off], fun s => if_pos off⟩
    · have row : exec (.coupleOn l p) = take l ⟨kCouple, p⟩ (handleCouple l p) := funext fun s => if_neg off
      exact .inl (row ▸ takeCouple_taking l p)
  case nonRequestKind =>
    by_cases known : requestKinds.contains k = true
    · exact .inr ⟨by rw [Instr.wf, known]; exact Bool.and_false _, fun s => if_pos known⟩
    · have row : exec (.nonRequestKind l k p) = take l ⟨k, p⟩ fun s => answerWith s .malformed (.kindReceived k) :=
        funext fun s => if_neg known
      refine .inl (row ▸ takeNonRequest_taking l p ?_)
      rintro rfl
      exact known (by decide)
  case setRate => exact .inl (execSetRate_taking l p)
  case setTime => exact .inl (execSetTime_taking l p)
  case nudge => exact .inl (execNudge_taking l p)
  case setSite => exact .inl (execSetSite_taking l p)
  case readTrack => exact .inl (execReadTrack_taking l p)
  case patchSet => exact .inl (execPatchSet_taking l p)
  case patchEnable => exact .inl (execPatchEnable_taking l p)
  case patchDisable => exact .inl (execPatchDisable_taking l p)
  case patchRead => exact .inl (execPatchRead_taking l p)
  case segmentWrite => exact .inl (execSegmentWrite_taking l p)
  case sectorErase => exact .inl (execSectorErase_taking l p)
  case eraseSuspend => exact .inl (execEraseSuspend_taking l p)
  case eraseResume => exact .inl (execEraseResume_taking l p)
  case sectorCheck => exact .inl (execSectorCheck_taking l p)
  case saveParameters => exact .inl (execSaveParameters_taking l p)
  case readSegment => exact .inl (execReadSegment_taking l p)
  case protect => exact .inl (execProtect_taking l p)
  case track => exact .inl (execTrack_taking l p)
  case move => exact .inl (execMove_taking l p)
  case park => exact .inl (execPark_taking l p)
  case setAxisParam => exact .inl (execSetAxisParam_taking l p)
  case readAxis => exact .inl (execReadAxis_taking l p)
  case home => exact .inl (execHome_taking l p)
  case clearFault lines => exact .inl (execClearFault_taking l p lines)
  case setThermalLimit => exact .inl (execSetThermalLimit_taking l p)
  case hold => exact .inl (execHold_taking l p)
  case resume => exact .inl (execResume_taking l p)
  case snapshotRead => exact .inl (execSnapshotRead_taking l p)
  case snapshotEdit => exact .inl (execSnapshotEdit_taking l p)
  case watchSet => exact .inl (execWatchSet_taking l p)
  case watchEnable => exact .inl (execWatchEnable_taking l p)
  case watchDisable => exact .inl (execWatchDisable_taking l p)
  case watchClear => exact .inl (execWatchClear_taking l p)
  case watchStatus => exact .inl (execWatchStatus_taking l p)
  case watchAcknowledge => exact .inl (execWatchAcknowledge_taking l p)
  case grantRequest => exact .inl (execGrantRequest_taking l p)
  case grantRelease => exact .inl (execGrantRelease_taking l p)
  case grantSeize => exact .inl (execGrantSeize_taking l p)
  case guardArm => exact .inl (execGuardArm_taking l p)
  case reportInterval => exact .inl (execReportInterval_taking l p)
  case readStatus => exact .inl (execReadStatus_taking l p)
  case linkReset => exact .inl (execLinkReset_taking l p)

/-- An event of the outside world, which takes no frame. -/
theorem exec_event_answers {i : Instr} (event : i.frame? = none) : AnswersLawful (exec i) := by
  cases i <;> cases event
  case deviceReset trips switches => exact execDeviceReset_answers trips switches
  case clockStep => exact execClockStep_answers.lawful
  case profileUpdate a => exact (execProfileUpdate_answers a).lawful
  case indexEdge a => exact fun s => ⟨_, rfl, id⟩
  case qualifiedTrip x => exact fun s => ⟨_, rfl, ((EventsSent.refl s).tripSeen x).linksLaw⟩
  case endSwitch a side => exact fun s => ⟨_, rfl, ((EventsSent.refl s).switchActive a side).linksLaw⟩
  case retryExpiry a line => exact (execRetryExpiry_answers a line).lawful
  case tripWindowExpiry a => exact (execTripWindowExpiry_answers a).lawful
  case thermalSample celsius => exact (execThermalSample_answers celsius).lawful
  case writeCompletion result => exact (execWriteCompletion_answers result).lawful
  case eraseCompletion result => exact (execEraseCompletion_answers result).lawful
  case checkSectorCovered => exact execCheckSectorCovered_answers.lawful
  case saveErasePhaseEnd result => exact (execSaveErasePhaseEnd_answers result).lawful
  case saveWritePhaseEnd result => exact (execSaveWritePhaseEnd_answers result).lawful
  case frameArrival l k p => exact execFrameArrival_answers l k p
  case transmitStart l => exact answersLawful_setLink fun _ => transmit_keeps_linkLaw
  case reportEvent l => exact execReportEvent_answers l
  case guardExpiry l => exact execGuardExpiry_answers l
  case characterReceived l char fault => exact answersLawful_setLink fun _ law => character_keeps_linkLaw law char fault

theorem exec_answers (i : Instr) : AnswersLawful (exec i) := by
  cases frame : i.frame? with
  | none => exact exec_event_answers frame
  | some taken =>
    obtain ⟨l, k, p⟩ := taken
    rcases exec_taking frame with taking | ⟨_, stands⟩
    · exact taking.answersLawful
    · exact fun s => ⟨s, stands s, id⟩

theorem passMillisecond_linksLaw {s : State} (h : LinksLaw s) : LinksLaw (passMillisecond s) := by
  intro l
  rw [passMillisecond, State.setLinks_link, Links.get_map]
  exact elapse_keeps_linkLaw (h l)

theorem step_answers : AnswersLawful step := by
  intro s
  unfold step
  split
  · exact ⟨_, rfl, passMillisecond_linksLaw⟩
  next i rest _ => exact exec_answers i { s with pending := rest }

/-- Settles O60: every command answers a state in which the links keep their laws, and so does a passing millisecond. -/
theorem linksLawKept : Obligations.LinksLawKept := by
  unfold Obligations.LinksLawKept
  intro s t h ht
  obtain ⟨u, next, kept⟩ := step_answers s
  rw [next] at ht
  cases ht
  exact kept h

/-- Settles O52: every command answers a next state. -/
theorem everyStepAnswers : Obligations.EveryStepAnswers := by
  intro s
  obtain ⟨t, next, _⟩ := step_answers s
  exact ⟨t, next⟩

/-- Settles O3: every well-formed request is a taking. -/
theorem everyTakingGivesOneReply : Obligations.EveryTakingGivesOneReply := by
  intro i s l k p wf frame
  rcases exec_taking frame with taking | ⟨malformed, _⟩
  · exact ⟨taking.ready, taking.waits⟩
  · rw [wf] at malformed
    cases malformed

end Sys2Proof.Proofs
end

section
/-! PROOFS. The kinds of R201: which command a kind byte spells, and that every request of another length than its kind's and
every frame of another kind is answered MALFORMED (R180, R200, R201). -/

namespace Sys2Proof.Proofs

open Machine Safety

/-! ### Kinds and commands (R180, R201) -/

theorem requestKinds_eq : requestKinds = lengthTable.map Prod.fst := rfl

/-- A kind that is no request kind spells NON REQUEST KIND (R180). -/
theorem requestOf_other {k : Byte} (other : requestKinds.contains k = false) (l : Link) (lines : Lines) (p : List Byte) :
    requestOf l lines k p = .nonRequestKind l k p := by
  simp only [requestKinds, List.cons_append, List.nil_append, List.contains_cons, List.contains_nil, Bool.or_eq_false_iff,
    beq_eq_false_iff_ne, ne_eq] at other
  simp only [requestOf, other, if_false]

/-- The command of every request kind takes a frame of that kind. -/
theorem frame_requestOf {k : Byte} (known : k ∈ requestKinds) (l : Link) (lines : Lines) (p : List Byte) :
    (requestOf l lines k p).frame? = some (l, k, p) := by
  simp only [requestKinds, List.cons_append, List.nil_append, List.mem_cons, List.not_mem_nil, or_false] at known
  by_cases couple : k = kCouple
  · subst couple
    by_cases on : p = [1]
    · subst on
      rfl
    · have row : requestOf l lines kCouple p = .coupleOff l p := if_neg on
      rw [row]
      rfl
  · rcases known with rfl | rfl | rfl | rfl | rfl | rfl | rfl | rfl | rfl | rfl | rfl | rfl | rfl | rfl | rfl | rfl | rfl |
      rfl | rfl | rfl | rfl | rfl | rfl | rfl | rfl | rfl | rfl | rfl | rfl | rfl | rfl | rfl | rfl | rfl | rfl | rfl | rfl |
      rfl | rfl | rfl | rfl | rfl | rfl
    case inr.inr.inr.inr.inl => exact absurd rfl couple
    all_goals rfl

/-- Every well-formed request is spelled by its frame, a CLEAR FAULT with the lines that it reads. -/
theorem requestOf_frame {i : Instr} {l : Link} {k : Byte} {p : List Byte} (wf : i.wf = true)
    (frame : i.frame? = some (l, k, p)) : ∃ lines, requestOf l lines k p = i := by
  cases i <;> cases frame
  case nonRequestKind =>
    rw [Instr.wf, Bool.and_eq_true, Bool.not_eq_true'] at wf
    exact ⟨⟨false, false, false⟩, requestOf_other wf.2 l _ p⟩
  case coupleOff =>
    rw [Instr.wf, Bool.and_eq_true, bne_iff_ne] at wf
    exact ⟨⟨false, false, false⟩, if_neg wf.2⟩
  case coupleOn =>
    rw [Instr.wf, beq_iff_eq] at wf
    exact ⟨⟨false, false, false⟩, if_pos wf⟩
  case clearFault lines => exact ⟨lines, rfl⟩
  all_goals exact ⟨⟨false, false, false⟩, rfl⟩

/-- Settles O51, by whether the kind is a request kind. -/
theorem frameAndCommandAgree : Obligations.FrameAndCommandAgree := by
  refine ⟨fun i l k p => requestOf_frame, fun l lines k p => ?_⟩
  cases known : requestKinds.contains k with
  | true => exact frame_requestOf (List.contains_iff_mem.mp known) l lines p
  | false => rw [requestOf_other known]; rfl

/-! ### Payloads of another length (R180, R200, R201) -/

/-- Every reader asks for the length of its kind, and the owner reads before any other check. -/
theorem exec_otherLength {s : State} {l : Link} (lines : Lines) {x : Byte × Nat} {p : List Byte} (kind : x ∈ lengthTable)
    (other : p.length ≠ x.2) (ready : Ready s l x.1 p) :
    exec (requestOf l lines x.1 p) s = .next (replied (s.dropFrame l) l x.1 .malformed .none) := by
  simp only [lengthTable, List.cons_append, List.nil_append, List.mem_cons, List.not_mem_nil, or_false] at kind
  rcases kind with rfl | rfl | rfl | rfl | rfl | rfl | rfl | rfl | rfl | rfl | rfl | rfl | rfl | rfl | rfl | rfl | rfl | rfl | rfl
      | rfl | rfl | rfl | rfl | rfl | rfl | rfl | rfl | rfl | rfl | rfl | rfl | rfl | rfl | rfl | rfl | rfl | rfl |
      rfl | rfl | rfl | rfl | rfl | rfl
  · exact (take_answered ready (by rw [readSigned8, ofLength_ne other]) : execSetRate l p s = _)
  · exact (take_answered ready (by rw [readSigned8, ofLength_ne other]) : execSetTime l p s = _)
  · exact (take_answered ready (by rw [readSigned8, ofLength_ne other]) : execNudge l p s = _)
  · exact (take_answered ready (by rw [readSite, ofLength_ne other]) : execSetSite l p s = _)
  · rw [exec_couple]
    exact take_answered ready (handleCouple_malformed (ofLength_ne other) _)
  · exact exec_misread (.readTrack (ofLength_ne other)) ready
  · exact exec_misread (.patchSet (ofLength_ne other)) ready
  · exact exec_misread (.patchEnable (ofLength_ne other)) ready
  · exact exec_misread (.patchDisable (ofLength_ne other)) ready
  · exact exec_misread (.patchRead (ofLength_ne other)) ready
  · exact exec_misread (.segmentWrite (ofLength_ne other)) ready
  · exact exec_misread (.sectorErase (ofLength_ne other)) ready
  · exact (take_answered ready (by rw [readEmpty, ofLength_ne other]) : execEraseSuspend l p s = _)
  · exact (take_answered ready (by rw [readEmpty, ofLength_ne other]) : execEraseResume l p s = _)
  · exact (take_answered ready (by rw [readCheck, ofLength_ne other]) : execSectorCheck l p s = _)
  · exact (take_answered ready (by rw [readEmpty, ofLength_ne other]) : execSaveParameters l p s = _)
  · exact exec_misread (.readSegment (ofLength_ne other)) ready
  · exact exec_misread (.protect (ofLength_ne other)) ready
  · exact exec_misread (.track (ofLength_ne other)) ready
  · exact exec_misread (.move (ofLength_ne other)) ready
  · exact exec_misread (.park (ofLength_ne other)) ready
  · exact exec_misread (.setAxisParam (ofLength_ne other)) ready
  · exact exec_misread (.readAxis (ofLength_ne other)) ready
  · exact exec_misread (.home (ofLength_ne other)) ready
  · exact exec_misread (.clearFault (ofLength_ne other)) ready
  · exact (take_answered ready (by rw [readTw, ofLength_ne other]) : execSetThermalLimit l p s = _)
  · exact (take_answered ready (by rw [readEmpty, ofLength_ne other]) : execHold l p s = _)
  · exact (take_answered ready (by rw [readEmpty, ofLength_ne other]) : execResume l p s = _)
  · exact (take_answered ready (by rw [readEmpty, ofLength_ne other]) : execSnapshotRead l p s = _)
  · exact exec_misread (.snapshotEdit (ofLength_ne other)) ready
  · exact exec_misread (.watchSet (ofLength_ne other)) ready
  · exact exec_misread (.watchEnable (ofLength_ne other)) ready
  · exact exec_misread (.watchDisable (ofLength_ne other)) ready
  · exact exec_misread (.watchClear (ofLength_ne other)) ready
  · exact (take_answered ready (by rw [readEmpty, ofLength_ne other]) : execWatchStatus l p s = _)
  · exact (take_answered ready (by rw [readMarks, ofLength_ne other]) : execWatchAcknowledge l p s = _)
  · exact (take_answered ready (by rw [readEmpty, ofLength_ne other]) : execGrantRequest l p s = _)
  · exact (take_answered ready (by rw [readEmpty, ofLength_ne other]) : execGrantRelease l p s = _)
  · exact (take_answered ready (by rw [readEmpty, ofLength_ne other]) : execGrantSeize l p s = _)
  · exact exec_misread (.guardArm (ofLength_ne other)) ready
  · exact (take_answered ready (by rw [readReportInterval, ofLength_ne other]) : execReportInterval l p s = _)
  · exact (take_answered ready (by rw [readEmpty, ofLength_ne other]) : execReadStatus l p s = _)
  · exact (take_answered ready (by rw [readEmpty, ofLength_ne other]) : execLinkReset l p s = _)

/-- Settles O4: a reader refuses another length, and a kind outside the table is no request. -/
theorem malformedFramesChangeNothing : Obligations.MalformedFramesChangeNothing := by
  refine ⟨fun l lines p s x kind other ready => exec_otherLength lines kind other ready, fun l k p s other ready => ?_⟩
  have unknown : ¬ requestKinds.contains k = true := by
    rw [List.contains_iff_mem, requestKinds_eq, List.mem_map]
    rintro ⟨x, kind, rfl⟩
    exact other x kind rfl
  exact (if_neg unknown).trans (take_replied ready rfl)

end Sys2Proof.Proofs
end

section
/-! PROOFS. The receiver character by character, frame arrivals, and that the characters of a frame are its arrival
(R178, R179, R190, R199, R200). -/

namespace Sys2Proof.Proofs

open Machine Safety

/-! ### One character (R178) -/

section Character

variable {x : LinkState} {ch : Byte}

/-- A hunting receiver stays HUNTING at LINE ERROR, as one that drops a frame goes back to it. -/
theorem raiseLineError_hunting (hunting : x.receiver = .hunting) : x.raiseLineError = x.dropped := by
  unfold LinkState.dropped LinkState.raiseLineError
  rw [← hunting]

theorem character_other (hunting : x.receiver = .hunting) (other : ch ≠ 0xA5) : x.character ch false = x.dropped := by
  rw [← raiseLineError_hunting hunting]
  simp only [LinkState.character, hunting]
  exact if_pos (by simpa using other)

theorem character_start (hunting : x.receiver = .hunting) :
    x.character 0xA5 false = { x with receiver := .collecting [] } := by
  simp [LinkState.character, hunting]

theorem character_fault : x.character ch true = x.dropped := by
  unfold LinkState.character
  split
  next hunting => exact raiseLineError_hunting hunting
  next => rfl

/-- A character collected: the length byte refused, more characters awaited, or the body whole. -/
theorem character_collecting {got rest : List Byte} {n : Byte} (collecting : x.receiver = .collecting got)
    (body : got ++ [ch] = n :: rest) :
    x.character ch false =
      if 250 < n.toNat then x.dropped
      else if rest.length < n.toNat + 3 then { x with receiver := .collecting (got ++ [ch]) }
      else x.complete (n :: rest) := by
  simp [LinkState.character, collecting, body, bodyLength, Config.maxPayload]

/-- A whole body: the frame arrives where its check agrees, and is dropped otherwise. -/
theorem complete_body (x : LinkState) {n kind : Byte} {payload check : List Byte} (len : check.length = 2) :
    x.complete (n :: kind :: (payload ++ check)) =
      if crcBytes (crcOf (n :: kind :: payload)) = check then
        LinkState.arrive ⟨kind, payload⟩ { x with receiver := .hunting }
      else x.dropped := by
  simp [LinkState.complete, len]

end Character

/-! ### Frame arrivals (R179, R190) -/

theorem exec_characterReceived {s : State} {l : Link} {ch : Byte} {fault : Bool} {y : LinkState}
    (taken : (s.link l).character ch fault = y) : exec (.characterReceived l ch fault) s = .next (s.setLink l y) := by
  rw [← taken]
  rfl

theorem exec_frameArrival {s : State} {l : Link} {kind : Byte} {payload : List Byte} {y : LinkState}
    (fits : payload.length ≤ 250) (arrives : LinkState.arrive ⟨kind, payload⟩ { s.link l with receiver := .hunting } = y) :
    exec (.frameArrival l kind payload) s = .next (s.setLink l y) := by
  rw [← arrives]
  exact if_pos fits

theorem arrive_appended {x : LinkState} (f : Frame) (free : x.buffer.length < 4) :
    x.arrive f = { x with guard := x.guard.restart, buffer := x.buffer ++ [f] } := if_pos free

theorem arrive_overrun {x : LinkState} (f : Frame) (full : 4 ≤ x.buffer.length) :
    x.arrive f = { x with guard := x.guard.restart, overrun := true } := if_neg (Nat.not_lt.mpr full)

/-- Settles O44: each character by the state of the receiver, each arrival by the frames held. -/
theorem framesComeIn : Obligations.FramesComeIn := by
  constructor
  · intro s l ch x dropped
    refine ⟨fun hunting other => exec_characterReceived (character_other hunting other),
      exec_characterReceived character_fault, fun hunting => exec_characterReceived (character_start hunting),
      fun got n rest collecting body => ?_⟩
    have collected := character_collecting collecting body
    refine ⟨fun long => exec_characterReceived (collected.trans (if_pos long)), fun short more => ?_,
      fun kind payload check whole short len two => ?_⟩
    · exact exec_characterReceived (collected.trans ((if_neg (Nat.not_lt.mpr short)).trans (if_pos more)))
    · have full : ¬ rest.length < n.toNat + 3 := by simp [whole, len, two]
      have completed := collected.trans ((if_neg (Nat.not_lt.mpr short)).trans (if_neg full))
      rw [whole, complete_body _ two] at completed
      refine ⟨fun bad => exec_characterReceived (completed.trans (if_neg (Ne.symm bad))), fun good => ?_⟩
      rw [exec_frameArrival (len ▸ short) rfl]
      exact exec_characterReceived (completed.trans (if_pos good.symm))
  · intro s l kind payload fits x guard
    have restarted : guard = x.guard.restart := by
      simp only [guard]
      cases x.guard <;> rfl
    rw [restarted]
    exact ⟨fun free => exec_frameArrival fits (arrive_appended _ free),
      fun full => exec_frameArrival fits (arrive_overrun _ full)⟩

/-! ### A frame on the line (R178, R199, R200) -/

/-- Characters heard by a link change that link alone. -/
theorem hear_eq (s : State) (l : Link) (chars : List Byte) :
    hear l chars s = s.setLink l (chars.foldl (fun x ch => x.character ch false) (s.link l)) := by
  induction chars generalizing s with
  | nil => exact (setLink_link s l).symm
  | cons ch rest ih =>
    have step : hear l (ch :: rest) s = hear l rest (s.setLink l ((s.link l).character ch false)) := rfl
    rw [step, ih, setLink_setLink, State.setLink_link_self]
    rfl

/-- The characters of a whole body, heard by a receiver that has collected its beginning, complete it. -/
theorem foldl_character_collecting {x : LinkState} {got chars rest : List Byte} {n : Byte}
    (collecting : x.receiver = .collecting got) (more : chars ≠ []) (body : got ++ chars = n :: rest)
    (short : n.toNat ≤ 250) (whole : rest.length = n.toNat + 3) :
    chars.foldl (fun x ch => x.character ch false) x = x.complete (n :: rest) := by
  induction chars generalizing x got with
  | nil => exact absurd rfl more
  | cons ch others ih =>
    have cut : got ++ [ch] ++ others = n :: rest := by rw [List.append_assoc]; exact body
    obtain ⟨empty, _⟩ | ⟨front, begun, rfl⟩ := List.append_eq_cons_iff.mp cut
    · simp at empty
    rw [List.foldl_cons, character_collecting collecting begun, if_neg (Nat.not_lt.mpr short)]
    rw [List.length_append] at whole
    cases others with
    | nil =>
      rw [List.append_nil, if_neg (by simpa using whole.ge)]
      rfl
    | cons next beyond =>
      rw [List.length_cons] at whole
      rw [if_pos (by omega)]
      exact ih rfl (List.cons_ne_nil _ _) cut

/-- Settles O43: the start byte begins the collecting, the body completes it, and its check is its own. -/
theorem wireCarriesFrame : Obligations.WireCarriesFrame := by
  intro s l f fits hunting
  have len : (BitVec.ofNat 8 f.payload.length).toNat = f.payload.length := by
    rw [BitVec.toNat_ofNat]
    omega
  have body : f.body = BitVec.ofNat 8 f.payload.length :: f.kind ::
      (f.payload ++ crcBytes (crcOf (BitVec.ofNat 8 f.payload.length :: f.kind :: f.payload))) := rfl
  rw [exec_frameArrival fits rfl, hear_eq, Frame.wire, List.foldl_cons, character_start hunting,
    foldl_character_collecting (got := []) (chars := f.body) rfl (by rw [body]; exact List.cons_ne_nil _ _) body
      (by omega) (by simp [len]),
    complete_body _ (crcBytes_length _), if_pos rfl]

end Sys2Proof.Proofs
end

section
/-! PROOFS. Events queued and frames sent, and the guards (R181, R189 to R193, R195). -/

namespace Sys2Proof.Proofs

open Machine Safety

/-! ### Events and the transmitter (R181, R193, R195) -/

theorem push_queued {x : LinkState} (e : Event) (free : x.events.length < 8) :
    x.push e = { x with events := x.events ++ [e] } := if_pos free

theorem push_lost {x : LinkState} (e : Event) (full : 8 ≤ x.events.length) : x.push e = { x with overrun := true } :=
  if_neg (Nat.not_lt.mpr full)

section Transmitter

variable {x : LinkState}

theorem transmit_reply {r : Reply} (reply : x.reply = some r) :
    x.transmit = { x with reply := none, sending := some r.frame } := by
  rw [LinkState.transmit, reply]

theorem transmit_report {rep : SkyReport} (reply : x.reply = none) (report : x.report = some rep) :
    x.transmit = { x with
      report := none, overrun := false, lineError := false, sending := some (rep.frame x.overrun x.lineError) } := by
  simp [LinkState.transmit, LinkState.clearFlags, reply, report]

theorem transmit_event {e : Event} {rest : List Event} (reply : x.reply = none) (report : x.report = none)
    (events : x.events = e :: rest) : x.transmit = { x with events := rest, sending := some e.frame } := by
  rw [LinkState.transmit, reply, report, events]

theorem transmit_nothing (reply : x.reply = none) (report : x.report = none) (events : x.events = []) :
    x.transmit = x := by
  rw [LinkState.transmit, reply, report, events]

end Transmitter

theorem exec_transmitStart {s : State} {l : Link} {y : LinkState} (sends : (s.link l).transmit = y) :
    exec (.transmitStart l) s = .next (s.setLink l y) := by
  rw [← sends]
  rfl

/-- Settles O45, by the events that wait and by what the transmitter finds. -/
theorem eventsAreQueuedAndFramesSent : Obligations.EventsAreQueuedAndFramesSent := by
  constructor
  · intro s e l x
    rw [State.send_link]
    exact ⟨push_queued e, push_lost e⟩
  · intro s l x
    refine ⟨fun r reply => exec_transmitStart (transmit_reply reply),
      fun rep reply report => exec_transmitStart (transmit_report reply report),
      fun e rest reply report events => exec_transmitStart (transmit_event reply report events),
      fun reply report events => ?_⟩
    rw [exec_transmitStart (transmit_nothing reply report events), setLink_link]

/-! ### GUARD ARM (R189) -/

/-- A guard whose action is HOLD, running or expired: RELEASE cannot take its place (R189). -/
def HoldsOn (g : Guard) : Prop := (∃ j left, g = .running j .hold left) ∨ ∃ j, g = .expired j .hold

theorem guard_arm_locked {g : Guard} {i : GuardInterval} {act : GuardAction} (locked : act = .release ∧ HoldsOn g) :
    g.arm i act = none := by
  obtain ⟨rfl, ⟨j, left, rfl⟩ | ⟨j, rfl⟩⟩ := locked <;> rfl

theorem guard_arm_free {g : Guard} {i : GuardInterval} {act : GuardAction} (free : ¬ (act = .release ∧ HoldsOn g)) :
    g.arm i act = some (.running i act i.ms) := by
  cases g with
  | disarmed => rfl
  | running j old left => exact if_neg fun h => free ⟨h.2, .inl ⟨j, left, by rw [h.1]⟩⟩
  | expired j old => exact if_neg fun h => free ⟨h.2, .inr ⟨j, by rw [h.1]⟩⟩

/-- The guard of a link by what arming it gives (R189). -/
def setGuard (l : Link) (s : State) : Option Guard → Handled
  | none => answer s .locked
  | some g => answer (s.setLink l { s.link l with guard := g }) .ok

theorem exec_guardArm {s : State} {l : Link} {i : GuardInterval} {act : GuardAction} {g : Option Guard}
    (ready : Ready s l 0x48 (beBytes 2 i.ms ++ [act.code])) (armed : (s.link l).guard.arm i act = g) :
    let h := setGuard l (s.dropFrame l) g
    exec (.guardArm l (beBytes 2 i.ms ++ [act.code])) s = .next (replied h.state l 0x48 h.status h.data) := by
  intro h
  show execGuardArm l _ s = _
  unfold execGuardArm
  refine take_replied ready ?_
  have dropped : ((s.dropFrame l).link l).guard.arm i act = g := by rw [State.dropFrame_link_self, armed]
  rw [readGuardArm_ms]
  simp only
  rw [dropped]
  cases g <;> rfl

/-! ### The expiry of a guard (R191, R192) -/

theorem exec_guardExpiry_early {s : State} {l : Link} {i : GuardInterval} {act : GuardAction} {left : Nat}
    (waits : (s.link l).guard = .running i act (left + 1)) : exec (.guardExpiry l) s = .next s := by
  show execGuardExpiry l s = _
  rw [execGuardExpiry, waits]
  rfl

theorem exec_guardExpiry_stopped {s : State} {l : Link} (stopped : ∀ i act left, (s.link l).guard ≠ .running i act left) :
    exec (.guardExpiry l) s = .next s := by
  show execGuardExpiry l s = _
  unfold execGuardExpiry
  split
  next i act due => exact absurd due (stopped i act 0)
  next => rfl

theorem exec_guardExpiry {s t : State} {l : Link} {i : GuardInterval} {act : GuardAction}
    (due : (s.link l).guard = .running i act 0)
    (expires : guardExpire (s.setLink l { s.link l with guard := .expired i act }) l act = t) :
    exec (.guardExpiry l) s = .next t := by
  show execGuardExpiry l s = _
  rw [execGuardExpiry, due, ← expires]
  rfl

section Expiry

variable {s : State} {l : Link}

/-- The holder's guard with RELEASE: the grant passes, and the target is released (R191). -/
theorem guardExpire_release_holder (holds : s.grant.holder = some l) :
    guardExpire s l .release =
      leaveQueue ((releaseGrant (s.send (.guardExpired l .release)) .guard).setClock { s.clock with rt := 0 }) l := by
  simp [guardExpire, holds, Clock.releaseTarget]

theorem guardExpire_release_other (other : s.grant.holder ≠ some l) :
    guardExpire s l .release = leaveQueue (s.send (.guardExpired l .release)) l := by
  simp [guardExpire, other]

/-- The holder's guard with HOLD: the grant passes, and the cause is handed over (R191). -/
theorem guardExpire_hold_holder (holds : s.grant.holder = some l) :
    guardExpire s l .hold =
      leaveQueue (handCause (releaseGrant (s.send (.guardExpired l .hold)) .guard) (.guard l)) l := by
  simp [guardExpire, holds]

theorem guardExpire_hold_other (other : s.grant.holder ≠ some l) :
    guardExpire s l .hold = leaveQueue (handCause (s.send (.guardExpired l .hold)) (.guard l)) l := by
  simp [guardExpire, other]

end Expiry

/-- Settles O47: arming by the guard that stands, expiry by its time, its action and the holder of the grant. -/
theorem guardArmsAndExpires : Obligations.GuardArmsAndExpires := by
  intro s l q
  refine ⟨?_, fun i act left => exec_guardExpiry_early, exec_guardExpiry_stopped, ?_⟩
  · intro i act ready p locked
    exact ⟨fun held => exec_guardArm ready (guard_arm_locked held), fun free => exec_guardArm ready (guard_arm_free free)⟩
  · intro i act due s1 passed
    have passes : releaseGrant s1 .guard = passed := rfl
    refine ⟨?_, ?_, ?_, ?_⟩
    · rintro rfl holds
      rw [← passes]
      exact exec_guardExpiry due (guardExpire_release_holder holds)
    · rintro rfl other
      exact exec_guardExpiry due (guardExpire_release_other other)
    · rintro rfl holds
      rw [← passes]
      exact exec_guardExpiry due (guardExpire_hold_holder holds)
    · rintro rfl other
      exact exec_guardExpiry due (guardExpire_hold_other other)

end Sys2Proof.Proofs
end

section
/-! PROOFS. The requests of the grant and of the link's own condition, and what a grant change does (R176, R184 to R187,
R196, R197). -/

namespace Sys2Proof.Proofs

open Machine Safety

/-! ### The grant (R184 to R187) -/

/-- A link leaves the queue of a lawful grant, where it waits at most once. -/
theorem erase_eq_filter {s : State} (law : GrantLaw s) (l : Link) :
    s.grant.queue.erase l = s.grant.queue.filter fun m => m ≠ l := by
  rw [(waitersApart_of_grantLaw law).1.erase_eq_filter]
  congr 1
  funext m
  exact Bool.eq_iff_iff.mpr (by simp)

theorem leaveQueue_eq {s : State} (law : GrantLaw s) (l : Link) :
    leaveQueue s l = s.setGrant { holder := s.grant.holder, queue := s.grant.queue.filter fun m => m ≠ l } := by
  rw [leaveQueue, erase_eq_filter law]

/-- The holder does not wait, so that taking it out of the queue changes nothing (R183). -/
theorem leaveQueue_holder {s : State} (law : GrantLaw s) {l : Link} (holds : s.grant.holder = some l) :
    leaveQueue s l = s := by
  have out := (waitersApart_of_grantLaw law).2.1 l holds
  rw [leaveQueue, List.erase_of_not_mem out]
  rfl

theorem releaseGrant_nil {s : State} {reason : GrantReason} (empty : s.grant.queue = []) :
    releaseGrant s reason = grantChange s none [] reason := by
  rw [releaseGrant, empty]

theorem releaseGrant_cons {s : State} {reason : GrantReason} {first : Link} {rest : List Link}
    (waiting : s.grant.queue = first :: rest) : releaseGrant s reason = grantChange s (some first) rest reason := by
  rw [releaseGrant, waiting]

/-- GRANT REQUEST by the holder and the queue (R184). -/
def requestGrant (l : Link) (s : State) : Handled :=
  match s.grant.holder with
  | none => answer (grantChange s (some l) (s.grant.queue.erase l) .request) .ok
  | some h =>
    if h = l then answer s .ok
    else if l ∈ s.grant.queue then answer s .queued
    else answer (s.setGrant { s.grant with queue := s.grant.queue ++ [l] }) .queued

/-- GRANT RELEASE by the holder (R185). -/
def giveUpGrant (l : Link) (s : State) : Handled :=
  if s.grant.holder = some l then answer (releaseGrant s .release) .ok else answer (leaveQueue s l) .ok

/-- GRANT SEIZE by the link and the holder (R186). -/
def seizeGrant (l : Link) (s : State) : Handled :=
  if l ≠ .c then answer s .notConsole
  else if s.grant.holder = some .c then answer s .ok
  else answer (grantChange s (some .c) (s.grant.queue.erase .c) .seize) .ok

section Taken

variable {s : State} {l : Link} {h : Handled}

theorem exec_grantRequest (ready : Ready s l 0x40 []) (handled : requestGrant l (s.dropFrame l) = h) :
    exec (.grantRequest l []) s = .next (replied h.state l 0x40 h.status h.data) :=
  (take_replied ready handled : execGrantRequest l [] s = _)

theorem exec_grantRelease (ready : Ready s l 0x41 []) (handled : giveUpGrant l (s.dropFrame l) = h) :
    exec (.grantRelease l []) s = .next (replied h.state l 0x41 h.status h.data) :=
  (take_replied ready handled : execGrantRelease l [] s = _)

theorem exec_grantSeize (ready : Ready s l 0x42 []) (handled : seizeGrant l (s.dropFrame l) = h) :
    exec (.grantSeize l []) s = .next (replied h.state l 0x42 h.status h.data) :=
  (take_replied ready handled : execGrantSeize l [] s = _)

theorem requestGrant_holder (holds : s.grant.holder = some l) : requestGrant l s = answer s .ok := by
  rw [requestGrant, holds]
  exact if_pos rfl

theorem requestGrant_free (law : GrantLaw s) (free : s.grant.holder = none) :
    requestGrant l s = answer (grantChange s (some l) [] .request) .ok := by
  rw [requestGrant, free, (waitersApart_of_grantLaw law).2.2 free]
  rfl

theorem requestGrant_waiter {m : Link} (holds : s.grant.holder = some m) (other : m ≠ l) (waits : l ∈ s.grant.queue) :
    requestGrant l s = answer s .queued := by
  rw [requestGrant, holds]
  exact (if_neg other).trans (if_pos waits)

theorem requestGrant_new {m : Link} (holds : s.grant.holder = some m) (other : m ≠ l) (new : l ∉ s.grant.queue) :
    requestGrant l s = answer (s.setGrant { s.grant with queue := s.grant.queue ++ [l] }) .queued := by
  rw [requestGrant, holds]
  exact (if_neg other).trans (if_neg new)

end Taken

/-- A grant change disables the LOCAL entries, their definitions and marks kept (R176). -/
theorem disableLocal_local {x : Watch} {w : WatchDef} (here : x.definition = some w) (isLocal : w.scope = .local_) :
    x.disableLocal = { x with definition := some { w with enabled := false } } := by
  rw [Watch.disableLocal, here]
  exact if_pos isLocal

theorem disableLocal_global {x : Watch} (isGlobal : ∀ w, x.definition = some w → w.scope = .global) :
    x.disableLocal = x := by
  unfold Watch.disableLocal
  split
  next w here => exact if_neg (by rw [isGlobal w here]; decide)
  next => rfl

/-- Settles O48: each request by the holder and the queue, and a grant change entry by entry. -/
theorem grantPassesBetweenLinks : Obligations.GrantPassesBetweenLinks := by
  constructor
  · intro s l law q queued
    refine ⟨fun ready => ⟨fun holds => exec_grantRequest ready (requestGrant_holder (s := q) holds),
        fun free => exec_grantRequest ready (requestGrant_free (s := q) law free),
        fun m holds other => ⟨fun waits => exec_grantRequest ready (requestGrant_waiter (s := q) holds other waits),
          fun new => ?_⟩⟩,
      fun ready => ⟨fun holds => ⟨fun empty => ?_, fun first rest waiting => ?_⟩, fun other => ?_⟩,
      fun ready => ⟨fun remote => ?_, fun console holds => ?_, fun console other => ?_⟩⟩
    · exact exec_grantRequest ready (requestGrant_new (s := q) holds other new)
    · rw [← releaseGrant_nil (s := q) empty]
      exact exec_grantRelease ready (if_pos holds)
    · rw [← releaseGrant_cons (s := q) waiting]
      exact exec_grantRelease ready (if_pos holds)
    · have left : leaveQueue q l = queued (s.grant.queue.filter fun m => m ≠ l) := leaveQueue_eq (s := q) law l
      rw [← left]
      exact exec_grantRelease ready (if_neg other)
    · exact exec_grantSeize ready (if_pos remote)
    · exact exec_grantSeize ready ((if_neg (not_not.mpr console)).trans (if_pos holds))
    · rw [← erase_eq_filter law]
      exact exec_grantSeize ready ((if_neg (not_not.mpr console)).trans (if_neg other))
  · intro s holder queue reason
    refine ⟨Table.map Watch.disableLocal s.watches, rfl, fun i => ⟨fun w here isLocal => ?_, fun isGlobal => ?_⟩⟩
    · rw [Table.get_map]
      exact disableLocal_local here isLocal
    · rw [Table.get_map]
      exact disableLocal_global isGlobal

/-! ### READ STATUS and LINK RESET (R196, R197) -/

theorem exec_readStatus {s : State} {l : Link} (ready : Ready s l 0x4A []) :
    let q := s.dropFrame l
    exec (.readStatus l []) s =
      .next (replied (q.setLink l (q.link l).clearFlags) l 0x4A .ok (.status (statusOf q l))) :=
  (take_replied ready rfl : execReadStatus l [] s = _)

/-- The grant after LINK RESET of a link: the link leaves the queue, or gives up the grant (R197). -/
def resetGrant (l : Link) (s : State) : State :=
  let s1 := leaveQueue s l
  if s1.grant.holder = some l then releaseGrant s1 .linkReset else s1

theorem resetGrant_other {s : State} {l : Link} (law : GrantLaw s) (other : s.grant.holder ≠ some l) :
    resetGrant l s = s.setGrant { holder := s.grant.holder, queue := s.grant.queue.filter fun m => m ≠ l } :=
  (if_neg other).trans (leaveQueue_eq law l)

theorem resetGrant_holder {s : State} {l : Link} (law : GrantLaw s) (holds : s.grant.holder = some l) :
    resetGrant l s = releaseGrant s .linkReset := by
  rw [resetGrant, leaveQueue_holder law holds]
  exact if_pos holds

theorem exec_linkReset {s t : State} {l : Link} (ready : Ready s l 0x4B [])
    (reset : resetGrant l ((s.dropFrame l).setLink l ((s.dropFrame l).link l).resetRequest) = t) :
    exec (.linkReset l []) s = .next (replied t l 0x4B .ok .none) := by
  rw [← reset]
  exact (take_replied ready rfl : execLinkReset l [] s = _)

/-- Settles O49: the reading as it stood, and the reset by the holder and the queue. -/
theorem readStatusAndLinkReset : Obligations.ReadStatusAndLinkReset := by
  intro s l q x
  constructor
  · intro ready
    refine ⟨statusOf q l, exec_readStatus ready, ?_⟩
    simp only [statusOf, q, State.dropFrame_link_self]
    exact ⟨rfl, rfl, rfl, rfl, rfl, rfl, rfl, rfl⟩
  · intro ready law clean
    have cleaned : q.setLink l (q.link l).resetRequest = clean := by
      simp only [q, State.dropFrame_link_self]
      rfl
    have lawful : GrantLaw clean := law
    refine ⟨fun other => exec_linkReset ready ?_, fun holds empty => exec_linkReset ready ?_,
      fun first rest holds waiting => exec_linkReset ready ?_⟩
    · exact cleaned ▸ resetGrant_other lawful other
    · exact cleaned ▸ (resetGrant_holder lawful holds).trans (releaseGrant_nil empty)
    · exact cleaned ▸ (resetGrant_holder lawful holds).trans (releaseGrant_cons waiting)

end Sys2Proof.Proofs
end

section
/-! PROOFS. A step with a command waiting, the counterpart of `step_empty`. -/

namespace Sys2Proof.Proofs

open Machine

theorem step_cons {s : State} {c : Instr} {rest : List Instr} (waiting : s.pending = c :: rest) :
    step s = exec c { s with pending := rest } := by
  unfold step
  rw [waiting]

/-- Settles O1: the front of the pushed queue is the command, and the queue's rest is the queue of `s` itself. -/
theorem stepRunsFrontCommand : Obligations.StepRunsFrontCommand := by
  intro c s
  have taken : step (s.push c) = exec c { s.push c with pending := s.pending } := step_cons (State.push_pending s c)
  have rest : { s.push c with pending := s.pending } = s := rfl
  exact taken.trans (congrArg (exec c) rest)

end Sys2Proof.Proofs
end
